-- ==== Sys2Proof/Word.lean ====
section
/-! DEFINITION. The plain data the whole model is written over: bytes, levels, channel masks, the number ranges of the
specification's "Numbering" convention, and a table with one cell per number. -/

namespace Sys2Proof

/-- One byte of a frame. -/
abbrev Byte := BitVec 8

/-- A level, 0 to 65535 (00_scope, Conventions: "Levels"). -/
abbrev Level := BitVec 16

/-- A channel mask as one 24-bit number, channel `c` the bit of weight `2 ^ c` (chapter 11, R192). -/
abbrev Mask := BitVec 24

/-- Channels are numbered 0 to 23. -/
abbrev Channel := Fin 24

/-- Streams are numbered 0 to 15. -/
abbrev StreamId := Fin 16

/-- The 48 keys (channel, position) of a patch table, numbered as R123 and R166 number them: the channel × 2, plus 1 for
position B (R1). -/
abbrev Key := Fin 48

/-- A table with one cell for each number below `n`: one entry per channel, per stream, per key. -/
structure Tab (n : Nat) (α : Type) where
  cells : Vector α n
deriving DecidableEq, Repr

/-- The table whose cell `i` is `f i`. -/
def Tab.of {n : Nat} {α : Type} (f : Fin n → α) : Tab n α := ⟨Vector.ofFn f⟩

/-- The cell of number `i`. -/
def Tab.get {n : Nat} {α : Type} (t : Tab n α) (i : Fin n) : α := t.cells[i]

/-- The table with cell `i` replaced and every other cell kept. -/
def Tab.put {n : Nat} {α : Type} (t : Tab n α) (i : Fin n) (x : α) : Tab n α :=
  Tab.of fun j => if j = i then x else t.get j

/-- The table with the same value in every cell. -/
def Tab.all {n : Nat} {α : Type} (x : α) : Tab n α := Tab.of fun _ => x

end Sys2Proof
end

