-- ==== Sys2Proof/Syntax.lean ====
section
/-! DEFINITION. The commands of the block: one constructor for each row of spec/opcode_table.json, in the table's order. A row
that arrives on the ring carries the characters that RING IN brought; a row of the command reference carries the sequence
number and the parameter block of the command as the command unit takes it. -/

namespace Sys2Proof

/-- In which order the parts of one output period boundary are taken where the rules leave it open (R51, R52, R55, R91, R92, R172):
the ramp step, the audit, the forming of the output levels and phase groups of the period that begins, and the draining of the
command queue where the audit ends (assumption 9). -/
inductive BoundaryOrder where
  /-- The audit and the draining, then the ramp step, then the forming. -/
  | auditFirst
  /-- The ramp step, then the audit and the draining, then the forming. -/
  | rampsFirst
  /-- The ramp step, the audit and the forming: the boundary whole; then the draining, within the period that begins. -/
  | drainLast
deriving DecidableEq, Repr

/-- Everything that can reach the node. The rows fall into five families.

* Frames: the characters KIND, LENGTH, BODY and CRC of one frame, as received on RING IN (R177, section 11.1). KIND is the
  row's own, but for UNKNOWN_KIND_FRAME, which carries any KIND.
* Line events: the characters received since the last line event, then the event (R175 to R177). Runs of space and mark are
  counted in bit times.
* Timed events and the sub-steps that fall within them (assumption 4).
* Supply, reset line and sensor events. Temperatures are whole degrees Celsius (assumption 8).
* Commands: the sequence number and the parameter block (section 11.4) of a command addressed to this node (assumption 5). -/
inductive Instr where
  -- frames
  | levelFrame (length : BitVec 16) (body : List Byte) (crc : BitVec 16)
  | commandFrame (length : BitVec 16) (body : List Byte) (crc : BitVec 16)
  | pollFrame (length : BitVec 16) (body : List Byte) (crc : BitVec 16)
  | enumerateFrame (length : BitVec 16) (body : List Byte) (crc : BitVec 16)
  | syncFrame (length : BitVec 16) (body : List Byte) (crc : BitVec 16)
  | healthFrame (length : BitVec 16) (body : List Byte) (crc : BitVec 16)
  | unknownKindFrame (kind : Byte) (length : BitVec 16) (body : List Byte) (crc : BitVec 16)
  -- line events
  | leadIn (chars : List Byte) (spaceBits : Nat)
  | frameBreak (chars : List Byte) (markBits : Nat)
  | framingError (chars : List Byte) (bad : Byte)
  -- timed events and their sub-steps
  | tick (order : List StreamId)
  | streamExpiry (stream : StreamId)
  | outputPeriodBoundary (peaks : Tab 24 Nat) (order : BoundaryOrder)
  | rampDelayExpiry (channel : Channel)
  | faultLatchSet (channel : Channel)
  | auditDwellEnd
  | auditComplete
  -- supply, reset line and sensor
  | thermalConditionChange (temperature : Int)
  | powerOn (temperature : Int)
  | powerFail (chars : List Byte)
  | resetnAssert (chars : List Byte)
  | resetnRelease (temperature : Int)
  | initialisationEnd (chars : List Byte) (lineInSpace : Bool)
  -- commands
  | setGroups (seq : Byte) (params : List Byte)
  | writePatch (seq : Byte) (params : List Byte)
  | writeChannel (seq : Byte) (params : List Byte)
  | writeProfile (seq : Byte) (params : List Byte)
  | writeCurve (seq : Byte) (params : List Byte)
  | writeScene (seq : Byte) (params : List Byte)
  | copyActive (seq : Byte) (params : List Byte)
  | arm (seq : Byte) (params : List Byte)
  | disarm (seq : Byte) (params : List Byte)
  | commitNow (seq : Byte) (params : List Byte)
  | setStream (seq : Byte) (params : List Byte)
  | recallScene (seq : Byte) (params : List Byte)
  | release (seq : Byte) (params : List Byte)
  | outputsOn (seq : Byte) (params : List Byte)
  | outputsOff (seq : Byte) (params : List Byte)
  | clearFaults (seq : Byte) (params : List Byte)
  | startAudit (seq : Byte) (params : List Byte)
  | abortAudit (seq : Byte) (params : List Byte)
  | setCeiling (seq : Byte) (params : List Byte)
  | read (seq : Byte) (params : List Byte)
  | nodeReset (seq : Byte) (params : List Byte)
deriving DecidableEq, Repr

end Sys2Proof
end

