-- ==== Sys2Proof/Decode.lean ====
section
/-! DEFINITION. The decoder over the rows of spec/opcode_table.json that give bits. The table gives no row any bits (its rows
have no fields and no fixed bits), so no word spells a command; a command's own layout (section 11.4) is decoded in
Machine/Operands.lean and a frame's (section 11.1) in Machine/Ring.lean. -/

namespace Sys2Proof

/-- The command that a word spells by the table's bits: none, for the table gives no row any bits. -/
def decodeTableWord (_nbits _w : Nat) : Option Instr := none

end Sys2Proof
end

