-- ==== Sys2Proof/Machine/State.lean ====
section
/-! DEFINITION. The state of the node: every piece of state the specification names, grouped by the block that owns it
(00_scope, "Block overview"), the reasons a step can stop, and the state after reset. -/

namespace Sys2Proof.Machine

/-- The reasons the node stops. It has no constructor: no rule of the specification stops the node. -/
inductive Fault where
deriving DecidableEq, Repr

/-- The reasons a command is refused by the model. -/
inductive Refusal where
  /-- Raised by an arm of `exec` whose row has no meaning yet. No arm raises it: every row has its meaning. Safe. -/
  | notModelled (mnemonic : String)
deriving DecidableEq, Repr

/-! ### Named values -/

/-- A channel's two inputs (section 1.1). -/
inductive Position where
  | a | b
deriving DecidableEq, Repr

/-- How two contributions are combined (R21). -/
inductive MergeRule where
  | highest | latest | aFirst
deriving DecidableEq, Repr

/-- What a set fault latch does to the drive (R89). -/
inductive FaultAction where
  | keep | forceOff
deriving DecidableEq, Repr

/-- The two kinds of load fault, OPEN and SHORT (R87). A sense report or a latch of NONE is `none` of this type. -/
inductive FaultKind where
  | openLoad | shortLoad
deriving DecidableEq, Repr

/-- The thermal condition (R81). -/
inductive Thermal where
  | cool | warm | hot
deriving DecidableEq, Repr

/-- The state of a stream (R60). -/
inductive StreamState where
  | disabled | silent | live | lost
deriving DecidableEq, Repr

/-- What is done while a stream is lost (R59). -/
inductive LossPolicy where
  | hold | release | scene (n : Fin 8)
deriving DecidableEq, Repr

/-- How the loss timeout is chosen (R59, R65). -/
inductive TimeoutSetting where
  | auto | ticks (n : BitVec 16)
deriving DecidableEq, Repr

/-- What set an override (R23). -/
inductive Origin where
  | command | loss (s : StreamId)
deriving DecidableEq, Repr

/-- The state of a ramp (R44). -/
inductive RampState where
  | steady | waiting | moving
deriving DecidableEq, Repr

/-- An entry of the audit result table (R96). -/
inductive AuditResult where
  | notTested | pass | openLoad | shortLoad | skipped | aborted
deriving DecidableEq, Repr

/-- The staging state with its armed epoch (R113). -/
inductive Staging where
  | clean | edited | armed (epoch : BitVec 16)
deriving DecidableEq, Repr

/-- The status of a command record (R136). -/
inductive Status where
  | queued | running | done | refused
deriving DecidableEq, Repr

/-- The result codes of a command that has ended (R142). -/
inductive ResultCode where
  | ok | aborted | badParam | badState | undefinedRef | invalidSet | queueFull | unknownCommand
deriving DecidableEq, Repr

/-- The bypass state (R188). -/
inductive Bypass where
  | engaged | disengaged
deriving DecidableEq, Repr

/-- The receiver state (R176). -/
inductive Receiver where
  | hunt | leadIn | frame
deriving DecidableEq, Repr

/-- The in-flight plan for the frame in transit (R181): which of its bytes this node substitutes. -/
inductive Plan where
  /-- Every byte is repeated as received. -/
  | repeated
  /-- The counter and the flags of an ENUMERATE are substituted (R183). -/
  | enumerate
  /-- The address byte of a POLL matched; its sequence byte has not come yet (R185). -/
  | pollMatched
  /-- The answer area of a POLL is substituted by these bytes, all from the one lookup (R145, R185). -/
  | pollAnswer (answer : List Byte)
  /-- The health byte is substituted at this body position (R186). -/
  | health (position : Nat)
deriving DecidableEq, Repr

/-- What a stretch of RING OUT carries (R175, R180, R189). -/
inductive LineSym where
  /-- A character with its stop bit in mark. -/
  | char (b : Byte)
  /-- A character whose stop bit is in space: a framing error. -/
  | badChar (b : Byte)
  /-- A run of space of so many bit times. -/
  | space (bits : Nat)
  /-- A run of mark of so many bit times. -/
  | mark (bits : Nat)
  /-- The line held in mark by the bypass switch for so many character times (R189). -/
  | held (characterTimes : Nat)
  /-- The last so many bit times of a character whose beginning fell within the hold of the bypass switch (R189), and whether
  its stop bit is in mark. -/
  | cut (bits : Nat) (b : Byte) (stopInMark : Bool)
deriving DecidableEq, Repr

/-! ### The table sets (R112) -/

/-- A patch entry (R2). -/
structure PatchEntry where
  stream : StreamId
  coarse : Fin 240
  fine   : Option (Fin 240)
  curve  : Fin 8
deriving DecidableEq, Repr

/-- A channel configuration (R112). -/
structure ChannelConfig where
  profile     : Fin 16
  mergeRule   : MergeRule
  rest        : Level
  faultAction : FaultAction
  phase       : Fin 4
deriving DecidableEq, Repr

/-- A segment of a fade profile (R42). The bound of the last segment is 65536. -/
structure Segment where
  bound : Nat
  rise  : Level
  fall  : Level
deriving DecidableEq, Repr

/-- A fade profile (R42). -/
structure Profile where
  delay    : Byte
  segments : List Segment
deriving DecidableEq, Repr

/-- The 17 points of a curve (R5). -/
abbrev Curve := Tab 17 Level

/-- A scene: a level for each channel it names (R25). -/
abbrev Scene := Tab 24 (Option Level)

/-- A table set (R112). Profile `p` of 1 to 15 stands in cell `p - 1` and curve `c` of 1 to 7 in cell `c - 1`; profile 0 and
curve 0 are held by no set as data. `none` is UNDEFINED, and in the patch table an empty key. -/
structure TableSet where
  patch    : Tab 48 (Option PatchEntry)
  config   : Tab 24 ChannelConfig
  profiles : Tab 15 (Option Profile)
  curves   : Tab 7 (Option Curve)
  scenes   : Tab 8 (Option Scene)
deriving DecidableEq, Repr

/-- The reset table set (R131). -/
def TableSet.reset : TableSet where
  patch    := Tab.all none
  config   := Tab.of fun c =>
    { profile := 0, mergeRule := .highest, rest := 0, faultAction := .keep, phase := ⟨c.val % 4, by omega⟩ }
  profiles := Tab.all none
  curves   := Tab.all none
  scenes   := Tab.all none

/-! ### Records of the blocks -/

/-- A contribution record (R7). -/
structure Contribution where
  present : Bool
  raw     : Level
  curved  : Level
deriving DecidableEq, Repr

/-- An absent contribution holds raw value 0 and curved value 0 (R7). -/
def Contribution.absent : Contribution := { present := false, raw := 0, curved := 0 }

/-- A stream record (R59). A stream is enabled exactly when its state is not DISABLED (R59), so the state holds the enable. -/
structure StreamRecord where
  state    : StreamState
  timeout  : TimeoutSetting
  policy   : LossPolicy
  measured : Nat
  ticks    : Nat
deriving DecidableEq, Repr

/-- A stream record after reset (R76). -/
def StreamRecord.reset : StreamRecord :=
  { state := .silent, timeout := .auto, policy := .hold, measured := 0, ticks := 0 }

/-- An override record (R23). -/
structure Override where
  origin  : Origin
  level   : Level
  profile : Option (Fin 16)
deriving DecidableEq, Repr

/-- A ramp record (R44). -/
structure Ramp where
  level : Level
  state : RampState
  delay : Nat
deriving DecidableEq, Repr

/-- A ramp record after reset (R57). -/
def Ramp.reset : Ramp := { level := 0, state := .steady, delay := 0 }

/-- A period report (R87); sense NONE is `none`. -/
structure PeriodReport where
  driven : Bool
  sense  : Option FaultKind
deriving DecidableEq, Repr

/-- A fault monitor record (R88); latch NONE is `none`. -/
structure Monitor where
  count   : Nat
  pending : FaultKind
  latch   : Option FaultKind
deriving DecidableEq, Repr

/-- A fault monitor record after reset (R94). -/
def Monitor.reset : Monitor := { count := 0, pending := .openLoad, latch := none }

/-- The four tallies of an audit (R96). -/
structure Tallies where
  pass      : Nat
  openLoad  : Nat
  shortLoad : Nat
  skipped   : Nat
deriving DecidableEq, Repr

/-- No result recorded yet (R98). -/
def Tallies.zero : Tallies := { pass := 0, openLoad := 0, shortLoad := 0, skipped := 0 }

/-- The record of the audit in progress (R96). `under` is `none` only within the event that ends the audit. -/
structure AuditRun where
  mask      : Mask
  testLevel : Level
  dwell     : Nat
  under     : Option Channel
  periods   : Nat
  tallies   : Tallies
deriving DecidableEq, Repr

/-- A command record (R136); the result code `none` stands while QUEUED or RUNNING. -/
structure Record where
  seq    : Byte
  code   : Byte
  status : Status
  result : Option ResultCode
  data   : List Byte
  params : List Byte
deriving DecidableEq, Repr

/-! ### The blocks -/

/-- The ring interface (chapter 10): node address, supply, reset line, bypass, and the running state of the frame in
transit, what RING OUT has sent in answer to the latest line event, and for how many bit times of what RING IN brings from now
on the bypass switch still holds RING OUT in mark (R189). -/
structure Ring where
  address    : Byte
  supplyOk   : Bool
  resetnHigh : Bool
  bypass     : Bypass
  markSeen   : Bool
  rx         : Receiver
  byteCount  : Nat
  kind       : Byte
  length     : BitVec 16
  body       : List Byte
  crcHigh    : Byte
  crcIn      : BitVec 16
  crcOut     : BitVec 16
  plan       : Plan
  out        : List LineSym
  holdLeft   : Nat
deriving DecidableEq, Repr

/-- The patch unit (chapter 1). -/
structure PatchUnit where
  contributions : Tab 48 Contribution
  lastUpdated   : Tab 24 Position
deriving DecidableEq, Repr

/-- The staging unit (chapter 7). -/
structure StagingUnit where
  staged : TableSet
  state  : Staging
deriving DecidableEq, Repr

/-- The target unit (chapter 2). -/
structure TargetUnit where
  overrides : Tab 24 (Option Override)
  targets   : Tab 24 Level
deriving DecidableEq, Repr

/-- The output stage (chapter 5). `phases` are the phase groups that place the on-times of the running period (R92);
`driven` and `tested` follow the running period for R87 and R88; `reports` are the reports of the period last ended. -/
structure OutputStage where
  switchOn : Bool
  ceiling  : Level
  thermal  : Thermal
  levels   : Tab 24 Level
  phases   : Tab 24 (Fin 4)
  driven   : Tab 24 Bool
  tested   : Tab 24 Bool
  reports  : Tab 24 PeriodReport
  monitors : Tab 24 Monitor
deriving DecidableEq, Repr

/-- The audit unit (chapter 6); IDLE is `none`. -/
structure AuditUnit where
  run     : Option AuditRun
  results : Tab 24 AuditResult
deriving DecidableEq, Repr

/-- The command unit (chapter 8). The group set is held as its numbers in ascending order. -/
structure CommandUnit where
  groups  : List Byte
  running : Option Record
  queue   : List Record
  replies : List Record
deriving DecidableEq, Repr

/-- The whole node, and the commands that wait for it. -/
structure State where
  /-- The commands waiting to be taken, first in, first out (the model's own). -/
  pending   : List Instr
  ring      : Ring
  /-- Ticks counted since the blocks were released from reset (R61). -/
  tickCount : Nat
  streams   : Tab 16 StreamRecord
  active    : TableSet
  staging   : StagingUnit
  patch     : PatchUnit
  target    : TargetUnit
  ramps     : Tab 24 Ramp
  output    : OutputStage
  audit     : AuditUnit
  command   : CommandUnit
  /-- How many free values have been drawn (the model's own, assumption 3). -/
  freeCount : Nat
deriving DecidableEq, Repr

/-! ### Reset -/

/-- The ring interface after power-on (R190); the values R190 does not give are named in assumption 13. -/
def Ring.reset : Ring where
  address    := 0
  supplyOk   := true
  resetnHigh := true
  bypass     := .engaged
  markSeen   := true
  rx         := .hunt
  byteCount  := 0
  kind       := 0
  length     := 0
  body       := []
  crcHigh    := 0
  crcIn      := 0xFFFF
  crcOut     := 0xFFFF
  plan       := .repeated
  out        := []
  holdLeft   := 0

/-- The patch unit after reset (R18). -/
def PatchUnit.reset : PatchUnit := { contributions := Tab.all .absent, lastUpdated := Tab.all .a }

/-- The staging unit after reset (R131). -/
def StagingUnit.reset : StagingUnit := { staged := TableSet.reset, state := .clean }

/-- The target unit after reset (R40). -/
def TargetUnit.reset : TargetUnit := { overrides := Tab.all none, targets := Tab.all 0 }

/-- The output stage after reset, with the thermal condition given (R94, R95). -/
def OutputStage.reset (thermal : Thermal) : OutputStage where
  switchOn := false
  ceiling  := 49152
  thermal  := thermal
  levels   := Tab.all 0
  phases   := Tab.of fun c => ⟨c.val % 4, by omega⟩
  driven   := Tab.all false
  tested   := Tab.all false
  reports  := Tab.all { driven := false, sense := none }
  monitors := Tab.all Monitor.reset

/-- The audit unit after reset (R110). -/
def AuditUnit.reset : AuditUnit := { run := none, results := Tab.all .notTested }

/-- The command unit after power-on (R149). -/
def CommandUnit.reset : CommandUnit := { groups := [], running := none, queue := [], replies := [] }

/-- The node right after power-on with RESETN high, at the start of initialisation (R188, R190). The thermal condition is
COOL (assumption 2). -/
def State.reset : State where
  pending   := []
  ring      := Ring.reset
  tickCount := 0
  streams   := Tab.all StreamRecord.reset
  active    := TableSet.reset
  staging   := StagingUnit.reset
  patch     := PatchUnit.reset
  target    := TargetUnit.reset
  ramps     := Tab.all Ramp.reset
  output    := OutputStage.reset .cool
  audit     := AuditUnit.reset
  command   := CommandUnit.reset
  freeCount := 0

end Sys2Proof.Machine
end

