-- ==== Sys2Proof/Machine/Formats.lean ====
section
/-! DEFINITION. Byte order, channel masks and the codes of chapter 11 (R192): how the fields of frames, parameter blocks and
reply data stand for values. -/

namespace Sys2Proof.Machine

/-! ### Byte order and masks -/

/-- A field of two bytes, most significant byte first (R192). -/
def wordOf (high low : Byte) : BitVec 16 := high ++ low

/-- The most significant byte of a field of two bytes. -/
def highByte (w : BitVec 16) : Byte := w.extractLsb' 8 8

/-- The least significant byte of a field of two bytes. -/
def lowByte (w : BitVec 16) : Byte := w.extractLsb' 0 8

/-- The two bytes of a field, as sent (R192). -/
def wordBytes (w : BitVec 16) : List Byte := [highByte w, lowByte w]

/-- The fields of two bytes that a run of bytes holds; a last odd byte is dropped. -/
def wordsOf : List Byte → List (BitVec 16)
  | high :: low :: rest => wordOf high low :: wordsOf rest
  | _ => []

/-- The mask of three bytes, the first holding channels 23 to 16 (R192). -/
def maskOf (high mid low : Byte) : Mask := high ++ (mid ++ low)

/-- The three bytes of a mask, as sent (R192). -/
def maskBytes (m : Mask) : List Byte := [m.extractLsb' 16 8, m.extractLsb' 8 8, m.extractLsb' 0 8]

/-- Whether the mask holds the channel (R192). -/
def inMask (m : Mask) (c : Channel) : Bool := m.getLsbD c

/-- The channels 0 to 23 in ascending order. -/
def channels : List Channel := List.finRange 24

/-- The channels of a mask in ascending order. -/
def maskChannels (m : Mask) : List Channel := channels.filter (inMask m)

/-- How many of the 24 channels have a property. -/
def countChannels (p : Channel → Bool) : Nat := (channels.filter p).length

/-- The mask of the channels that have a property. -/
def maskWhere (p : Channel → Bool) : Mask :=
  channels.foldl (fun m c => if p c then m ||| BitVec.twoPow 24 c else m) 0

/-- A number written as one byte. -/
def byteOf (n : Nat) : Byte := BitVec.ofNat 8 n

/-- A number written as a field of two bytes. -/
def numberBytes (n : Nat) : List Byte := wordBytes (BitVec.ofNat 16 n)

/-- The number of a byte where it lies below `n` (R195: a value outside its range refuses the command). -/
def below (n : Nat) (b : Byte) : Option (Fin n) :=
  if h : b.toNat < n then some ⟨b.toNat, h⟩ else none

/-! ### The keys of a patch table (R1, R123) -/

/-- The key of a channel's position: the channel × 2, plus 1 for position B. -/
def keyOf (c : Channel) : Position → Key
  | .a => ⟨c.val * 2, by omega⟩
  | .b => ⟨c.val * 2 + 1, by omega⟩

/-- The channel of a key. -/
def keyChannel (k : Key) : Channel := ⟨k.val / 2, by omega⟩

/-! ### Codes of parameter blocks (section 11.4) -/

def positionOfCode (b : Byte) : Option Position :=
  if b = 0 then some .a else if b = 1 then some .b else none

def mergeRuleOfCode (b : Byte) : Option MergeRule :=
  if b = 0 then some .highest else if b = 1 then some .latest else if b = 2 then some .aFirst else none

def faultActionOfCode (b : Byte) : Option FaultAction :=
  if b = 0 then some .keep else if b = 1 then some .forceOff else none

/-- An enable, or any of the three kinds of action, of two codes (section 11.4). -/
def flagOfCode (b : Byte) : Option Bool :=
  if b = 0 then some false else if b = 1 then some true else none

def timeoutOfField (w : BitVec 16) : TimeoutSetting := if w = 0 then .auto else .ticks w

/-- The fine slot of a WRITE PATCH: a slot, or FFh for absent (section 11.4); any other value is refused (R195). -/
def fineOfCode (b : Byte) : Option (Option (Fin 240)) :=
  if b = 0xFF then some none else (below 240 b).map some

/-- The policy and scene fields of a SET STREAM: the scene is recorded under SCENE only (R159). -/
def policyOfCodes (policy : Byte) (scene : Fin 8) : Option LossPolicy :=
  if policy = 0 then some .hold
  else if policy = 1 then some .release
  else if policy = 2 then some (.scene scene)
  else none

/-! ### Codes of reply data and answer areas (sections 11.2 to 11.5) -/

def flagCode (b : Bool) : Byte := if b then 1 else 0

def mergeRuleCode : MergeRule → Byte
  | .highest => 0 | .latest => 1 | .aFirst => 2

def faultActionCode : FaultAction → Byte
  | .keep => 0 | .forceOff => 1

def timeoutField : TimeoutSetting → BitVec 16
  | .auto => 0 | .ticks n => n

def policyCode : LossPolicy → Byte
  | .hold => 0 | .release => 1 | .scene _ => 2

/-- The policy scene of stream status: 0 unless the policy is SCENE (R171, R196). -/
def policySceneCode : LossPolicy → Byte
  | .scene n => byteOf n
  | _ => 0

def streamStateCode : StreamState → Byte
  | .disabled => 0 | .silent => 1 | .live => 2 | .lost => 3

def rampStateCode : RampState → Byte
  | .steady => 0 | .waiting => 1 | .moving => 2

def latchCode : Option FaultKind → Byte
  | none => 0 | some .openLoad => 1 | some .shortLoad => 2

def auditResultCode : AuditResult → Byte
  | .notTested => 0 | .pass => 1 | .openLoad => 2 | .shortLoad => 3 | .skipped => 4 | .aborted => 5

def stagingCode : Staging → Byte
  | .clean => 0 | .edited => 1 | .armed _ => 2

/-- The armed epoch as reported: 0 unless ARMED (R130, R196). -/
def stagingEpoch : Staging → BitVec 16
  | .armed e => e
  | _ => 0

def thermalCode : Thermal → Byte
  | .cool => 0 | .warm => 1 | .hot => 2

/-- The answer status of a record found (section 11.2); NOT_FOUND is 1. -/
def statusCode : Status → Byte
  | .queued => 2 | .running => 3 | .done => 4 | .refused => 5

/-- The result codes of section 11.2. -/
def resultCode : Option ResultCode → Byte
  | none => 0
  | some .ok => 1
  | some .aborted => 2
  | some .badParam => 3
  | some .badState => 4
  | some .undefinedRef => 5
  | some .invalidSet => 6
  | some .queueFull => 7
  | some .unknownCommand => 8

/-! ### The command codes (section 9.1) -/

def codeSetGroups : Byte := 1
def codeWritePatch : Byte := 2
def codeWriteChannel : Byte := 3
def codeWriteProfile : Byte := 4
def codeWriteCurve : Byte := 5
def codeWriteScene : Byte := 6
def codeCopyActive : Byte := 7
def codeArm : Byte := 8
def codeDisarm : Byte := 9
def codeCommitNow : Byte := 10
def codeSetStream : Byte := 11
def codeRecallScene : Byte := 12
def codeRelease : Byte := 13
def codeOutputsOn : Byte := 14
def codeOutputsOff : Byte := 15
def codeClearFaults : Byte := 16
def codeStartAudit : Byte := 17
def codeAbortAudit : Byte := 18
def codeSetCeiling : Byte := 19
def codeRead : Byte := 20
def codeNodeReset : Byte := 21

end Sys2Proof.Machine
end

