-- ==== Sys2Proof/Machine/Tables.lean ====
section
/-! DEFINITION. Reading a table set: profiles and their segments, curves and their arithmetic, patch entries, scenes, and the
validation of the staged set (chapters 1, 3 and 7). -/

namespace Sys2Proof.Machine

/-! ### Profiles (section 3.1) -/

/-- The one segment of profile 0 (R42). -/
def snapSegment : Segment := { bound := 65536, rise := 65535, fall := 65535 }

/-- Profile 0, fixed: delay 0 and one segment of rise step 65535 and fall step 65535 (R42). -/
def profile0 : Profile := { delay := 0, segments := [snapSegment] }

/-- The profile of a number in a table set; `none` is UNDEFINED (R42). -/
def profileOf (t : TableSet) : Fin 16 → Option Profile
  | ⟨0, _⟩ => some profile0
  | ⟨n + 1, h⟩ => t.profiles.get ⟨n, by omega⟩

/-- The segment of a level in a profile: the first segment whose bound exceeds the level (R43). Every defined profile has one
(its last bound is 65536); the other case cannot arise (assumption 14). -/
def segmentOf (p : Profile) (level : Level) : Segment :=
  (p.segments.find? fun g => level.toNat < g.bound).getD snapSegment

/-! ### Curves (section 1.3) -/

/-- A curve given by its points, applied to a raw value (R6). -/
def applyCurve (p : Curve) (x : Level) : Level :=
  if x = 65535 then p.get 16
  else
    let k := x.toNat / 4096
    let f := x.toNat % 4096
    let from' := (p.get (Fin.ofNat 17 k)).toNat
    let to' := (p.get (Fin.ofNat 17 (k + 1))).toNat
    BitVec.ofInt 16 ((from' : Int) + Int.tdiv (((to' : Int) - from') * f) 4096)

/-- The curve of a number 1 to 7 in a table set, by its number; curve 0 has no points (R5). -/
def curveOf (t : TableSet) : Fin 8 → Option Curve
  | ⟨0, _⟩ => none
  | ⟨n + 1, h⟩ => t.curves.get ⟨n, by omega⟩

/-- Whether a curve number is defined in a table set: curve 0 always is (R5). -/
def curveDefined (t : TableSet) (n : Fin 8) : Bool := n.val == 0 || (curveOf t n).isSome

/-- The curved value of a raw value under a curve number of a table set: curve 0 is the identity, a defined curve is applied
(R5, R6). A curve named by an active entry is always defined (R2, R128); the other case cannot arise (assumption 14). -/
def curvedValue (t : TableSet) (n : Fin 8) (raw : Level) : Level :=
  match curveOf t n with
  | some p => applyCurve p raw
  | none => raw

/-! ### Patch entries (sections 1.1 and 1.2) -/

/-- Whether every slot an entry names is below the slot count (R3). -/
def slotsWithin (e : PatchEntry) (n : Nat) : Bool :=
  decide (e.coarse.val < n) && (match e.fine with
    | none => true
    | some f => decide (f.val < n))

/-- The raw value of an entry from the slot bytes of a frame (R4). -/
def rawValue (e : PatchEntry) (slots : List Byte) : Level :=
  let coarse := (slots.getD e.coarse.val 0).toNat
  match e.fine with
  | none => BitVec.ofNat 16 (coarse * 257)
  | some f => BitVec.ofNat 16 (coarse * 256 + (slots.getD f.val 0).toNat)

/-- Whether a channel has an entry naming the stream, at position A or B (R30, R31). -/
def patchedTo (t : TableSet) (c : Channel) (s : StreamId) : Bool :=
  let names : Option PatchEntry → Bool
    | some e => e.stream == s
    | none => false
  names (t.patch.get (keyOf c .a)) || names (t.patch.get (keyOf c .b))

/-! ### Scenes (section 2.4) -/

/-- The scene level a scene of a table set gives a channel: `none` where the scene is UNDEFINED or does not name the channel
(R25). -/
def sceneLevel (t : TableSet) (n : Fin 8) (c : Channel) : Option Level :=
  match t.scenes.get n with
  | some sc => sc.get c
  | none => none

/-! ### Validation (section 7.3) -/

/-- The step of R122 that failed, with its code (section 11.5). -/
inductive InvalidTable where
  | patch | channel | override | stream
deriving DecidableEq, Repr

/-- What was missing (R123), with its code (section 11.5). -/
inductive MissingKind where
  | curve | profile | scene
deriving DecidableEq, Repr

/-- The four fields that describe a validation failure (R123). -/
structure Invalid where
  table     : InvalidTable
  index     : Nat
  reason    : MissingKind
  reference : Nat
deriving DecidableEq, Repr

/-- Step 1 of R122 at one key. -/
def invalidKey (t : TableSet) (k : Key) : Option Invalid :=
  match t.patch.get k with
  | some e => if curveDefined t e.curve then none else some ⟨.patch, k, .curve, e.curve⟩
  | none => none

/-- Step 2 of R122 at one channel. -/
def invalidConfig (t : TableSet) (c : Channel) : Option Invalid :=
  let p := (t.config.get c).profile
  if (profileOf t p).isSome then none else some ⟨.channel, c, .profile, p⟩

/-- Step 3 of R122 at one channel: absent records, LOSS records and COMMAND records without a profile are passed over. -/
def invalidOverride (t : TableSet) (o : Tab 24 (Option Override)) (c : Channel) : Option Invalid :=
  match o.get c with
  | some { origin := .command, level := _, profile := some p } =>
    if (profileOf t p).isSome then none else some ⟨.override, c, .profile, p⟩
  | _ => none

/-- Step 4 of R122 at one stream, whatever its enable and state. -/
def invalidStream (t : TableSet) (r : Tab 16 StreamRecord) (i : StreamId) : Option Invalid :=
  match (r.get i).policy with
  | .scene n => if (t.scenes.get n).isSome then none else some ⟨.stream, i, .scene, n⟩
  | _ => none

/-- Validation of a table set against the standing overrides and the stream records: the first failure, or `none` where the
set passes (R122). -/
def validate (t : TableSet) (o : Tab 24 (Option Override)) (r : Tab 16 StreamRecord) : Option Invalid :=
  ((List.finRange 48).findSome? (invalidKey t)).or <|
  (channels.findSome? (invalidConfig t)).or <|
  (channels.findSome? (invalidOverride t o)).or <|
  (List.finRange 16).findSome? (invalidStream t r)

end Sys2Proof.Machine
end

