-- ==== Sys2Proof/Machine/Operands.lean ====
section
/-! DEFINITION. The operand forms: the 21 commands with their parameters as named values, and the decoding of a parameter
block, which gives UNKNOWN_COMMAND or BAD_PARAM (steps 1 and 2 of R138; R151 to R166, R195). -/

namespace Sys2Proof.Machine

/-- The table set that a READ names (R166). -/
inductive SetName where
  | active | staged
deriving DecidableEq, Repr

/-- The items of READ with the index and part each allows (R166). -/
inductive ReadItem where
  | patchEntry (set : SetName) (key : Key)
  | channelConfig (set : SetName) (channel : Channel)
  | profile (set : SetName) (profile : Fin 16) (part : Fin 2)
  | curve (set : SetName) (curve : Fin 8) (part : Fin 3)
  | scene (set : SetName) (scene : Fin 8) (part : Fin 4)
  | channelStatus (channel : Channel)
  | streamStatus (stream : StreamId)
  | nodeStatus
deriving DecidableEq, Repr

/-- A command whose code and parameters have passed steps 1 and 2 of R138. An absent patch entry is the action CLEAR, an
absent profile, curve or scene the action DELETE. Profiles 1 to 15 and curves 1 to 7 are numbered from 0 here, as the cells
of a table set are. -/
inductive Cmd where
  | setGroups (numbers : List Byte)
  | writePatch (key : Key) (entry : Option PatchEntry)
  | writeChannel (channel : Channel) (config : ChannelConfig)
  | writeProfile (cell : Fin 15) (profile : Option Profile)
  | writeCurve (cell : Fin 7) (curve : Option Curve)
  | writeScene (scene : Fin 8) (content : Option Scene)
  | copyActive
  | arm (epoch : BitVec 16)
  | disarm
  | commitNow
  | setStream (stream : StreamId) (enable : Bool) (timeout : TimeoutSetting) (policy : LossPolicy)
  | recallScene (scene : Fin 8) (mask : Option Mask) (profile : Option (Fin 16))
  | release (mask : Mask)
  | outputsOn
  | outputsOff
  | clearFaults (mask : Mask)
  | startAudit (mask : Mask) (testLevel : Level) (dwell : Nat)
  | abortAudit
  | setCeiling (level : Level)
  | read (item : ReadItem)
  | nodeReset
deriving DecidableEq, Repr

/-- `some x` where the condition holds. -/
def guardSome {α : Type} (ok : Bool) (x : α) : Option α := if ok then some x else none

/-- A command without parameters: any parameter length other than 0 is refused (R151). -/
def parseEmpty (c : Cmd) (p : List Byte) : Option Cmd := guardSome p.isEmpty c

/-- SET GROUPS: at most 4 numbers, each 1 to 63, none twice (R152). -/
def parseSetGroups (p : List Byte) : Option Cmd :=
  guardSome (decide (p.length ≤ 4) && p.all (fun g => decide (1 ≤ g.toNat ∧ g.toNat ≤ 63)) && decide p.Nodup) (.setGroups p)

/-- WRITE PATCH: length 3 with CLEAR and 7 with SET; the fine slot differs from the coarse slot (R153). -/
def parseWritePatch : List Byte → Option Cmd
  | [ch, pos, action] => do
    let c ← below 24 ch
    let q ← positionOfCode pos
    guardSome (action == 0) (.writePatch (keyOf c q) none)
  | [ch, pos, action, st, co, fi, cu] => do
    let c ← below 24 ch
    let q ← positionOfCode pos
    let s ← below 16 st
    let coarse ← below 240 co
    let fine ← fineOfCode fi
    let curve ← below 8 cu
    guardSome (action == 1 && decide (fine ≠ some coarse))
      (.writePatch (keyOf c q) (some { stream := s, coarse := coarse, fine := fine, curve := curve }))
  | _ => none

/-- WRITE CHANNEL: length 7 (R154). -/
def parseWriteChannel : List Byte → Option Cmd
  | [ch, pr, me, r1, r0, fa, ph] => do
    let c ← below 24 ch
    let p ← below 16 pr
    let m ← mergeRuleOfCode me
    let f ← faultActionOfCode fa
    let g ← below 4 ph
    some (.writeChannel c { profile := p, mergeRule := m, rest := wordOf r1 r0, faultAction := f, phase := g })
  | _ => none

/-- Whether numbers strictly increase. -/
def strictlyRising : List Nat → Bool
  | a :: b :: rest => decide (a < b) && strictlyRising (b :: rest)
  | _ => true

/-- The segments of a profile from all its bounds and its steps, a rise step and a fall step for each bound (R42). -/
def segmentsOf : List Nat → List Level → List Segment
  | b :: bs, rise :: fall :: rest => { bound := b, rise := rise, fall := fall } :: segmentsOf bs rest
  | _, _ => []

/-- The profile number of a WRITE PROFILE, as its cell: 0 and above 15 are refused (R155). -/
def profileCell (b : Byte) : Option (Fin 15) :=
  if h : 1 ≤ b.toNat ∧ b.toNat ≤ 15 then some ⟨b.toNat - 1, by omega⟩ else none

/-- The curve number of a WRITE CURVE, as its cell: 0 and above 7 are refused (R156). -/
def curveCell (b : Byte) : Option (Fin 7) :=
  if h : 1 ≤ b.toNat ∧ b.toNat ≤ 7 then some ⟨b.toNat - 1, by omega⟩ else none

/-- The body of a WRITE PROFILE with DEFINE, after the delay and the segment count `k`: `k - 1` bounds, then a rise step and a
fall step for each segment (R155, section 11.4). -/
def parseProfileBody (delay : Byte) (k : Nat) (rest : List Byte) : Option Profile :=
  let words := wordsOf rest
  let bounds := (words.take (k - 1)).map BitVec.toNat
  let steps := words.drop (k - 1)
  guardSome
    (decide (1 ≤ k ∧ k ≤ 4) && decide (rest.length + 4 = 2 + 6 * k) && strictlyRising (0 :: bounds)
      && steps.all (fun x => decide (x ≠ 0)))
    { delay := delay, segments := segmentsOf (bounds ++ [65536]) steps }

/-- WRITE PROFILE: length 2 with DELETE and 2 + 6 × k with DEFINE (R155). -/
def parseWriteProfile : List Byte → Option Cmd
  | [n, action] => do
    let p ← profileCell n
    guardSome (action == 0) (.writeProfile p none)
  | n :: action :: delay :: k :: rest => do
    let p ← profileCell n
    let body ← parseProfileBody delay k.toNat rest
    guardSome (action == 1) (.writeProfile p (some body))
  | _ => none

/-- WRITE CURVE: length 2 with DELETE and 36 with DEFINE (R156). -/
def parseWriteCurve : List Byte → Option Cmd
  | [n, action] => do
    let c ← curveCell n
    guardSome (action == 0) (.writeCurve c none)
  | n :: action :: rest => do
    let c ← curveCell n
    let points := wordsOf rest
    guardSome (action == 1 && decide (rest.length = 34))
      (.writeCurve c (some (Tab.of fun i => points.getD i.val 0)))
  | _ => none

/-- The scene that names exactly the channels of the mask, with the levels in ascending channel order (R120). -/
def sceneOf (m : Mask) (levels : List Level) : Scene :=
  Tab.of fun c =>
    if inMask m c then
      some (levels.getD (countChannels fun d => inMask m d && decide (d < c)) 0)
    else none

/-- WRITE SCENE: length 2 with DELETE and 5 + 2 × c with DEFINE, for the c channels of a mask that is not empty (R156). -/
def parseWriteScene : List Byte → Option Cmd
  | [n, action] => do
    let s ← below 8 n
    guardSome (action == 0) (.writeScene s none)
  | n :: action :: m2 :: m1 :: m0 :: rest => do
    let s ← below 8 n
    let m := maskOf m2 m1 m0
    let c := countChannels (inMask m)
    guardSome (action == 1 && decide (1 ≤ c) && decide (rest.length = 2 * c))
      (.writeScene s (some (sceneOf m (wordsOf rest))))
  | _ => none

/-- ARM: one epoch (R158). -/
def parseArm : List Byte → Option Cmd
  | [e1, e0] => some (.arm (wordOf e1 e0))
  | _ => none

/-- SET STREAM: length 6; the scene is checked for range under every policy (R159). -/
def parseSetStream : List Byte → Option Cmd
  | [st, en, t1, t0, po, sc] => do
    let s ← below 16 st
    let e ← flagOfCode en
    let n ← below 8 sc
    let p ← policyOfCodes po n
    some (.setStream s e (timeoutOfField (wordOf t1 t0)) p)
  | _ => none

/-- RECALL SCENE: the length tells which of the mask and the profile are present (R160). -/
def parseRecallScene : List Byte → Option Cmd
  | [sc] => do
    let n ← below 8 sc
    some (.recallScene n none none)
  | [sc, pr] => do
    let n ← below 8 sc
    let p ← below 16 pr
    some (.recallScene n none (some p))
  | [sc, m2, m1, m0] => do
    let n ← below 8 sc
    some (.recallScene n (some (maskOf m2 m1 m0)) none)
  | [sc, m2, m1, m0, pr] => do
    let n ← below 8 sc
    let p ← below 16 pr
    some (.recallScene n (some (maskOf m2 m1 m0)) (some p))
  | _ => none

/-- RELEASE: one mask (R161). -/
def parseRelease : List Byte → Option Cmd
  | [m2, m1, m0] => some (.release (maskOf m2 m1 m0))
  | _ => none

/-- CLEAR FAULTS: one mask (R163). -/
def parseClearFaults : List Byte → Option Cmd
  | [m2, m1, m0] => some (.clearFaults (maskOf m2 m1 m0))
  | _ => none

/-- START AUDIT: a mask that is not empty, a test level above 0, a dwell 4 to 64 (R164). -/
def parseStartAudit : List Byte → Option Cmd
  | [m2, m1, m0, l1, l0, d] =>
    guardSome (decide (maskOf m2 m1 m0 ≠ 0) && decide (wordOf l1 l0 ≠ 0) && decide (4 ≤ d.toNat ∧ d.toNat ≤ 64))
      (.startAudit (maskOf m2 m1 m0) (wordOf l1 l0) d.toNat)
  | _ => none

/-- SET CEILING: one level (R162). -/
def parseSetCeiling : List Byte → Option Cmd
  | [l1, l0] => some (.setCeiling (wordOf l1 l0))
  | _ => none

def setOfCode (b : Byte) : Option SetName :=
  if b = 0 then some .active else if b = 1 then some .staged else none

/-- The item field of a READ that names NODE STATUS (section 11.4). -/
def itemNodeStatus : Byte := 8

/-- The item of a READ with the set, index and part that it allows (R166). -/
def parseReadItem (item set index part : Byte) : Option ReadItem :=
  if item = 1 then do
    let t ← setOfCode set
    let k ← below 48 index
    guardSome (part == 0) (.patchEntry t k)
  else if item = 2 then do
    let t ← setOfCode set
    let c ← below 24 index
    guardSome (part == 0) (.channelConfig t c)
  else if item = 3 then do
    let t ← setOfCode set
    let p ← below 16 index
    let j ← below 2 part
    some (.profile t p j)
  else if item = 4 then do
    let t ← setOfCode set
    let c ← below 8 index
    let j ← below 3 part
    some (.curve t c j)
  else if item = 5 then do
    let t ← setOfCode set
    let n ← below 8 index
    let j ← below 4 part
    some (.scene t n j)
  else if item = 6 then do
    let c ← below 24 index
    guardSome (set == 0 && part == 0) (.channelStatus c)
  else if item = 7 then do
    let s ← below 16 index
    guardSome (set == 0 && part == 0) (.streamStatus s)
  else if item = itemNodeStatus then
    guardSome (set == 0 && index == 0 && part == 0) .nodeStatus
  else none

/-- READ: length 4 (R166). -/
def parseRead : List Byte → Option Cmd
  | [item, set, index, part] => (parseReadItem item set index part).map .read
  | _ => none

/-- The parameter decoder of a command code; `none` where the code names no command (step 1 of R138). -/
def parserOf (code : Byte) : Option (List Byte → Option Cmd) :=
  if code = codeSetGroups then some parseSetGroups
  else if code = codeWritePatch then some parseWritePatch
  else if code = codeWriteChannel then some parseWriteChannel
  else if code = codeWriteProfile then some parseWriteProfile
  else if code = codeWriteCurve then some parseWriteCurve
  else if code = codeWriteScene then some parseWriteScene
  else if code = codeCopyActive then some (parseEmpty .copyActive)
  else if code = codeArm then some parseArm
  else if code = codeDisarm then some (parseEmpty .disarm)
  else if code = codeCommitNow then some (parseEmpty .commitNow)
  else if code = codeSetStream then some parseSetStream
  else if code = codeRecallScene then some parseRecallScene
  else if code = codeRelease then some parseRelease
  else if code = codeOutputsOn then some (parseEmpty .outputsOn)
  else if code = codeOutputsOff then some (parseEmpty .outputsOff)
  else if code = codeClearFaults then some parseClearFaults
  else if code = codeStartAudit then some parseStartAudit
  else if code = codeAbortAudit then some (parseEmpty .abortAudit)
  else if code = codeSetCeiling then some parseSetCeiling
  else if code = codeRead then some parseRead
  else if code = codeNodeReset then some (parseEmpty .nodeReset)
  else none

/-- Steps 1 and 2 of R138: the command that a code and a parameter block spell, or the result code of the refusal. -/
def parse (code : Byte) (params : List Byte) : Except ResultCode Cmd :=
  match parserOf code with
  | none => .error .unknownCommand
  | some p =>
    match p params with
    | some c => .ok c
    | none => .error .badParam

/-- The three urgent commands (R138). -/
def isUrgent (code : Byte) : Bool := code == codeOutputsOff || code == codeAbortAudit || code == codeNodeReset

/-- A READ whose parameter length is 4 and whose item field is NODE STATUS (R138). -/
def isNodeStatusRead (code : Byte) (params : List Byte) : Bool :=
  code == codeRead && params.length == 4 && params.head? == some itemNodeStatus

end Sys2Proof.Machine
end

