-- ==== Sys2Proof/Machine/Ops.lean ====
section
/-! DEFINITION. The named operations of the level path, shared by every event: usability, merge and target, ramps, the patch
unit's updates, loss overrides, streams, and the output levels (chapters 1 to 5). -/

namespace Sys2Proof.Machine

/-! ### Whether the blocks run -/

/-- The blocks are held in reset while the supply is below the operating threshold and while RESETN is low, and run from the
start of initialisation on (R188). -/
def blocksRun (s : State) : Bool := s.ring.supplyOk && s.ring.resetnHigh

/-- Whether frames reach the node: the bypass is disengaged (R188). -/
def ringConnected (s : State) : Bool := s.ring.bypass == .disengaged

/-! ### Streams (chapter 4) -/

/-- A stream is enabled exactly when its state is not DISABLED (R59). -/
def enabled (r : StreamRecord) : Bool := r.state != .disabled

/-- The effective timeout of a stream, in ticks (R65). -/
def effectiveTimeout (r : StreamRecord) : Nat :=
  match r.timeout with
  | .ticks n => n.toNat
  | .auto => if r.measured = 0 then 20000 else min 20000 (max 200 (4 * r.measured))

/-- The health byte's LOST flag: any stream is LOST (R75). -/
def anyLost (s : State) : Bool := (List.finRange 16).any fun i => (s.streams.get i).state == .lost

/-! ### Targets (chapter 2) -/

/-- The entry at a channel's position in the active patch table. -/
def entryAt (s : State) (c : Channel) (q : Position) : Option PatchEntry := s.active.patch.get (keyOf c q)

/-- The contribution at a channel's position. -/
def contributionAt (s : State) (c : Channel) (q : Position) : Contribution := s.patch.contributions.get (keyOf c q)

/-- Whether a channel's position holds a present contribution of the stream. -/
def presentFrom (s : State) (i : StreamId) (c : Channel) (q : Position) : Bool :=
  match entryAt s c q with
  | some e => e.stream == i && (contributionAt s c q).present
  | none => false

/-- Whether a channel has a present contribution of the stream, at either position. -/
def hasPresent (s : State) (i : StreamId) (c : Channel) : Bool := presentFrom s i c .a || presentFrom s i c .b

/-- Usability: a present contribution is usable while its stream is LIVE, or LOST under HOLD (R20). -/
def usable (s : State) (c : Channel) (q : Position) : Bool :=
  (contributionAt s c q).present &&
    match entryAt s c q with
    | none => false
    | some e =>
      match (s.streams.get e.stream).state with
      | .live => true
      | .lost => (s.streams.get e.stream).policy == .hold
      | _ => false

/-- The curved value of a usable contribution. -/
def usableValue (s : State) (c : Channel) (q : Position) : Option Level :=
  if usable s c q then some (contributionAt s c q).curved else none

/-- The smaller of two levels. -/
def minLevel (x y : Level) : Level := if x ≤ y then x else y

/-- The larger of two levels. -/
def maxLevel (x y : Level) : Level := if x ≤ y then y else x

/-- The merge result of a channel; `none` is absent (R21). -/
def mergeResult (s : State) (c : Channel) : Option Level :=
  let a := usableValue s c .a
  let b := usableValue s c .b
  match (s.active.config.get c).mergeRule with
  | .highest =>
    match a, b with
    | some x, some y => some (maxLevel x y)
    | some x, none => some x
    | none, y => y
  | .latest =>
    match s.patch.lastUpdated.get c with
    | .a => a.or b
    | .b => b.or a
  | .aFirst => a.or b

/-- The target that a channel's override, merge result and rest level give, in this order of precedence (R22). -/
def targetOf (s : State) (c : Channel) : Level :=
  match s.target.overrides.get c with
  | some o => o.level
  | none => (mergeResult s c).getD (s.active.config.get c).rest

/-- The number of the profile in effect for a channel (R24). -/
def profileInEffect (s : State) (c : Channel) : Fin 16 :=
  match s.target.overrides.get c with
  | some { origin := .command, level := _, profile := some p } => p
  | _ => (s.active.config.get c).profile

/-- The profile in effect for a channel, in the active set. It is always defined (R24); the other case cannot arise
(assumption 14). -/
def profileFor (s : State) (c : Channel) : Profile := (profileOf s.active (profileInEffect s c)).getD profile0

/-! ### Ramps (chapter 3) -/

/-- A target change to `target` taken by a ramp record, `delay` being the delay of the profile in effect (R45, R46, R47). -/
def targetChange (delay : Nat) (target : Level) (r : Ramp) : Ramp :=
  match r.state with
  | .steady =>
    if delay = 0 then { r with state := .moving, delay := 0 } else { r with state := .waiting, delay := delay }
  | .waiting => if target = r.level then { r with state := .steady, delay := 0 } else r
  | .moving => if target = r.level then { r with state := .steady, delay := 0 } else r

/-- A WAITING record counts one boundary of its delay (R48). -/
def countDelay (r : Ramp) : Ramp :=
  if r.state = .waiting then { r with delay := r.delay - 1 } else r

/-- A WAITING record whose delay remaining is 0 becomes MOVING (R48). -/
def delayExpiry (r : Ramp) : Ramp :=
  if r.state = .waiting ∧ r.delay = 0 then { r with state := .moving } else r

/-- One step of a level towards a target by a segment's rise or fall step, never past the target; the flag says whether the
target is reached (R49). -/
def stepLevel (g : Segment) (target level : Level) : Level × Bool :=
  if level < target then
    if target.toNat - level.toNat ≤ g.rise.toNat then (target, true) else (level + g.rise, false)
  else
    if level.toNat - target.toNat ≤ g.fall.toNat then (target, true) else (level - g.fall, false)

/-- A MOVING record takes one step (R49). -/
def rampStep (p : Profile) (target : Level) (r : Ramp) : Ramp :=
  let moved := stepLevel (segmentOf p r.level) target r.level
  { r with level := moved.1, state := if moved.2 then .steady else r.state }

/-- A record's part of an output period boundary: countdown, step or nothing (R48, R49, R50). -/
def rampBoundary (p : Profile) (target : Level) (r : Ramp) : Ramp :=
  match r.state with
  | .steady => r
  | .waiting => delayExpiry (countDelay r)
  | .moving => rampStep p target r

/-- Every channel's part of an output period boundary (R50). -/
def stepRamps (s : State) : State :=
  { s with ramps := Tab.of fun c => rampBoundary (profileFor s c) (s.target.targets.get c) (s.ramps.get c) }

/-- Recomputation of the targets of the channels chosen; every change is handed to the ramp engine (R36, R37). -/
def recompute (chosen : Channel → Bool) (s : State) : State :=
  let changed := fun c => chosen c && targetOf s c != s.target.targets.get c
  { s with
    target := { s.target with
      targets := Tab.of fun c => if chosen c then targetOf s c else s.target.targets.get c }
    ramps := Tab.of fun c =>
      if changed c then targetChange (profileFor s c).delay.toNat (targetOf s c) (s.ramps.get c) else s.ramps.get c }

/-! ### The patch unit (chapter 1) -/

/-- Whether a LEVEL frame of stream `i` with these slots updates the entry at a key (R3). -/
def updatesKey (s : State) (i : StreamId) (slots : List Byte) (k : Key) : Bool :=
  match s.active.patch.get k with
  | some e => e.stream == i && slotsWithin e slots.length
  | none => false

/-- The contribution at a key after a LEVEL frame (R4, R8). -/
def updatedContribution (s : State) (i : StreamId) (slots : List Byte) (k : Key) : Contribution :=
  match s.active.patch.get k with
  | some e =>
    if updatesKey s i slots k then
      let raw := rawValue e slots
      { present := true, raw := raw, curved := curvedValue s.active e.curve raw }
    else s.patch.contributions.get k
  | none => s.patch.contributions.get k

/-- The patch unit takes an accepted LEVEL frame whole: contributions and last-updated positions (R3, R8, R9). -/
def takeValues (i : StreamId) (slots : List Byte) (s : State) : State :=
  { s with patch := {
      contributions := Tab.of (updatedContribution s i slots)
      lastUpdated := Tab.of fun c =>
        if updatesKey s i slots (keyOf c .a) then .a
        else if updatesKey s i slots (keyOf c .b) then .b
        else s.patch.lastUpdated.get c } }

/-- The channels that the patch unit hands to the target unit: a contribution or the last-updated position differs (R10, R12). -/
def handedOn (before after : PatchUnit) (c : Channel) : Bool :=
  before.contributions.get (keyOf c .a) != after.contributions.get (keyOf c .a)
    || before.contributions.get (keyOf c .b) != after.contributions.get (keyOf c .b)
    || before.lastUpdated.get c != after.lastUpdated.get c

/-- Every contribution whose active entry names the stream becomes absent (R12). -/
def dropValues (i : StreamId) (s : State) : State :=
  { s with patch := { s.patch with
      contributions := Tab.of fun k =>
        match s.active.patch.get k with
        | some e => if e.stream = i then .absent else s.patch.contributions.get k
        | none => s.patch.contributions.get k } }

/-- The contribution at a key across a commit from one table set to another (R14, R15). -/
def carriedContribution (before after : TableSet) (k : Key) (x : Contribution) : Contribution :=
  match before.patch.get k, after.patch.get k with
  | some e, some e' =>
    if e = e' then
      if x.present && curveOf before e.curve != curveOf after e.curve then
        { x with curved := curvedValue after e.curve x.raw }
      else x
    else .absent
  | _, _ => .absent

/-! ### Loss overrides (section 2.5) -/

/-- The level at which a lost stream would hold a channel: the stream is enabled, LOST and under SCENE m, the channel has an
entry naming it, and scene m names the channel (R31). -/
def lossLevel (s : State) (c : Channel) (i : StreamId) : Option Level :=
  match (s.streams.get i).state, (s.streams.get i).policy with
  | .lost, .scene m => if patchedTo s.active c i then sceneLevel s.active m c else none
  | _, _ => none

/-- The override that loss re-examination gives a channel: from the lowest-numbered stream that qualifies (R31). -/
def lossOverride (s : State) (c : Channel) : Option Override :=
  (List.finRange 16).findSome? fun i =>
    (lossLevel s c i).map fun l => { origin := .loss i, level := l, profile := none }

/-- Loss re-examination of the channels chosen that have no override (R31). -/
def reexamine (chosen : Channel → Bool) (s : State) : State :=
  { s with target := { s.target with
      overrides := Tab.of fun c =>
        match s.target.overrides.get c with
        | some o => some o
        | none => if chosen c then lossOverride s c else none } }

/-- Whether a channel has an override of origin LOSS(i). -/
def heldByLoss (s : State) (i : StreamId) (c : Channel) : Bool :=
  match s.target.overrides.get c with
  | some o => o.origin == .loss i
  | none => false

/-- The overrides of the channels chosen are removed. -/
def removeOverrides (chosen : Channel → Bool) (s : State) : State :=
  { s with target := { s.target with
      overrides := Tab.of fun c => if chosen c then none else s.target.overrides.get c } }

/-- Steps 1 and 2 of R32, R33 and R34: every override of origin LOSS(i) is removed, and each channel it was removed from is
re-examined. -/
def reverseLoss (i : StreamId) (s : State) : State :=
  reexamine (heldByLoss s i) (removeOverrides (heldByLoss s i) s)

/-- Loss scene application for stream i under SCENE n (R30). -/
def applyLossScene (i : StreamId) (n : Fin 8) (s : State) : State :=
  { s with target := { s.target with
      overrides := Tab.of fun c =>
        match s.target.overrides.get c with
        | some o => some o
        | none =>
          if patchedTo s.active c i then
            (sceneLevel s.active n c).map fun l => { origin := .loss i, level := l, profile := none }
          else none } }

/-- The channels whose override differs between two states. -/
def overrideDiffers (before after : State) (c : Channel) : Bool :=
  before.target.overrides.get c != after.target.overrides.get c

/-- What the target unit does when stream i goes from LIVE to LOST (R29). -/
def applyLoss (i : StreamId) (s : State) : State :=
  match (s.streams.get i).policy with
  | .hold => s
  | .release => recompute (hasPresent s i) s
  | .scene n =>
    let s' := applyLossScene i n s
    recompute (fun c => hasPresent s i c || overrideDiffers s s' c) s'

/-! ### Stream events (chapter 4) -/

/-- Replaces the record of one stream. -/
def setStream (i : StreamId) (r : StreamRecord) (s : State) : State := { s with streams := s.streams.put i r }

/-- A LIVE stream becomes LOST, its count and measured period kept, and its loss policy is applied (R66, R72). -/
def loseStream (i : StreamId) (s : State) : State :=
  applyLoss i (setStream i { s.streams.get i with state := .lost } s)

/-- A stream is due to expire: LIVE, its count at its effective timeout (R66). -/
def expiryDue (r : StreamRecord) : Bool := r.state == .live && decide (effectiveTimeout r ≤ r.ticks)

/-- The examination of one stream for expiry (R66). -/
def examineExpiry (i : StreamId) (s : State) : State :=
  if expiryDue (s.streams.get i) then loseStream i s else s

/-- Each LIVE stream's ticks since last arrival are incremented (R61). -/
def countTicks (s : State) : State :=
  { s with streams := Tab.of fun i =>
      let r := s.streams.get i
      if r.state = .live then { r with ticks := r.ticks + 1 } else r }

/-- The record of a stream after an accepted LEVEL frame (R63). -/
def arrivalRecord (r : StreamRecord) : StreamRecord :=
  { r with
    state := .live
    measured := if r.state = .live then max 1 r.ticks else 0
    ticks := 0 }

/-- One arrival, taken whole: the stream record, the patch unit's values, and for a stream that was LOST the reversal of its
loss effects (R3, R10, R32, R63). -/
def arrival (i : StreamId) (slots : List Byte) (s : State) : State :=
  let before := s.streams.get i
  let s1 := takeValues i slots (setStream i (arrivalRecord before) s)
  if before.state = .lost then
    let s2 := reverseLoss i s1
    recompute (fun c => handedOn s.patch s1.patch c || heldByLoss s1 i c
      || (before.policy != .hold && hasPresent s1 i c)) s2
  else recompute (handedOn s.patch s1.patch) s1

/-- A LEVEL frame accepted by the ring: the body checks of R62, then the arrival. -/
def levelBody (length : BitVec 16) (body : List Byte) (s : State) : State :=
  match body with
  | st :: n :: slots =>
    match below 16 st with
    | some i =>
      if 1 ≤ n.toNat ∧ n.toNat ≤ 240 ∧ length.toNat = 2 + n.toNat ∧ slots.length = n.toNat
          ∧ enabled (s.streams.get i) = true then arrival i slots s
      else s
    | none => s
  | _ => s

/-! ### The output stage (chapter 5) -/

/-- The effective ceiling outside HOT (R83). -/
def effectiveCeiling (o : OutputStage) : Level := if o.thermal = .warm then o.ceiling else 65535

/-- The channel under test (R96). -/
def underTest (a : AuditUnit) : Option Channel := a.run.bind AuditRun.under

/-- Whether a channel is latched under FORCE_OFF (R84, R99). -/
def forcedOff (s : State) (c : Channel) : Bool :=
  (s.output.monitors.get c).latch.isSome && (s.active.config.get c).faultAction == .forceOff

/-- The level that a channel shows before the effective ceiling: the test level on the channel under test, else the ramp
level (R84). -/
def shownLevel (s : State) (c : Channel) : Level :=
  match s.audit.run with
  | some run => if run.under = some c then run.testLevel else (s.ramps.get c).level
  | none => (s.ramps.get c).level

/-- The output level of a channel (R84). -/
def outputLevel (s : State) (c : Channel) : Level :=
  if s.output.switchOn = false ∨ s.output.thermal = .hot ∨ forcedOff s c = true then 0
  else minLevel (shownLevel s c) (effectiveCeiling s.output)

/-- Whether a channel is the channel under test. -/
def isUnderTest (s : State) (c : Channel) : Bool := underTest s.audit == some c

/-- The output levels are formed at once, within the running period (R85): a channel at 0 is no longer driven throughout the
period (R87), and a channel under test has been under test in it (R88; DEDUCED, assumption 16). A channel that a boundary has
forced off and that CLEAR FAULTS clears at the same instant is not driven throughout the period that begins: R90 says so, where
R91 has the channel latched one period earlier (DESIGN CHOICE, assumption 25). -/
def formOutputs (s : State) : State :=
  { s with output := { s.output with
      levels := Tab.of (outputLevel s)
      driven := Tab.of fun c => s.output.driven.get c && outputLevel s c != 0
      tested := Tab.of fun c => s.output.tested.get c || isUnderTest s c } }

/-- The output levels are formed for the period that begins at a boundary (R85), with the phase groups now configured (R86,
R92). -/
def beginPeriod (s : State) : State :=
  { s with output := { s.output with
      levels := Tab.of (outputLevel s)
      driven := Tab.of fun c => outputLevel s c != 0
      tested := Tab.of (isUnderTest s)
      phases := Tab.of fun c => (s.active.config.get c).phase } }

/-- The sense part of a period report from the highest sense voltage of the channel's on-time, in millivolts: SHORT above
2.0 V, OPEN below 0.2 V throughout, else NONE (R191, assumption 10). -/
def senseOf (peak : Nat) : Option FaultKind :=
  if 2000 < peak then some .shortLoad else if peak < 200 then some .openLoad else none

/-- The period reports are formed at the boundary; a channel not driven throughout reports sense NONE (R87, R191). -/
def formReports (peaks : Tab 24 Nat) (s : State) : State :=
  { s with output := { s.output with
      reports := Tab.of fun c =>
        { driven := s.output.driven.get c
          sense := if s.output.driven.get c then senseOf (peaks.get c) else none } } }

/-- The confirm count and the pending kind of a record after a period report (R88), before a count of 3 is settled. -/
def countReport (report : PeriodReport) (tested : Bool) (m : Monitor) : Monitor :=
  if report.driven = false ∨ tested = true then { m with count := 0 }
  else
    match report.sense with
    | none => { m with count := 0 }
    | some k =>
      if 0 < m.count ∧ m.pending = k then { m with count := m.count + 1 }
      else { m with count := 1, pending := k }

/-- A confirm count that has reached 3 returns to 0 and sets the latch, which keeps a kind it has (R88). -/
def settleLatch (m : Monitor) : Monitor :=
  if 3 ≤ m.count then { m with count := 0, latch := m.latch.or (some m.pending) } else m

/-- Every channel's fault monitor record is updated from its period report (R88). -/
def stepMonitors (s : State) : State :=
  { s with output := { s.output with
      monitors := Tab.of fun c =>
        settleLatch (countReport (s.output.reports.get c) (s.output.tested.get c) (s.output.monitors.get c)) } }

/-- The health byte's FAULT flag: at least one latch is set (R93). -/
def anyLatch (s : State) : Bool := channels.any fun c => (s.output.monitors.get c).latch.isSome

/-- Whether the drive output of a channel is high at an instant of the output period, `t` counting from its start in units of
which the period has 262140 = 4 × 65535: the on-time is 4 units for each step of the output level, begins at the phase group
× ¼ of the period, and runs round the period as a circle (R86). Low while the node is held in reset (R191). -/
def driveHigh (s : State) (c : Channel) (t : Nat) : Bool :=
  blocksRun s &&
    decide ((t + 262140 - (s.output.phases.get c).val * 65535) % 262140 < 4 * (s.output.levels.get c).toNat)

/-! ### The thermal condition (section 5.2) -/

/-- One step of the sensor from the condition held, at a die temperature (R81). -/
def thermalNext (held : Thermal) (temperature : Int) : Thermal :=
  match held with
  | .cool => if 105 ≤ temperature then .warm else .cool
  | .warm => if temperature ≤ 95 then .cool else if 135 ≤ temperature then .hot else .warm
  | .hot => if temperature ≤ 120 then .warm else .hot

/-- The condition from the rising thresholds, at power-on and on release of RESETN (R81). -/
def thermalAtStart (temperature : Int) : Thermal :=
  if temperature < 105 then .cool else if temperature < 135 then .warm else .hot

/-! ### Commit (section 7.6) -/

/-- A commit, taken whole in the five steps of R128. -/
def commit (s : State) : State :=
  let installed := { s with
    active := s.staging.staged
    staging := { s.staging with state := .clean }
    patch := { s.patch with
      contributions := Tab.of fun k =>
        carriedContribution s.active s.staging.staged k (s.patch.contributions.get k) } }
  formOutputs (recompute (fun _ => true) installed)

/-! ### Reset of the blocks -/

/-- Every block but the ring interface and the command unit at its reset values, the thermal condition kept (R19, R41, R58,
R77, R95, R111, R132). -/
def resetBlocks (s : State) : State :=
  { s with
    streams := Tab.all StreamRecord.reset
    active := TableSet.reset
    staging := StagingUnit.reset
    patch := PatchUnit.reset
    target := TargetUnit.reset
    ramps := Tab.all Ramp.reset
    output := OutputStage.reset s.output.thermal
    audit := AuditUnit.reset }

end Sys2Proof.Machine
end

