-- ==== Sys2Proof/Machine/Reply.lean ====
section
/-! DEFINITION. Reply data: the layouts of section 11.5, formed from the state at the instant a command executes (R167 to
R172, R196), and the answer area of a POLL (R144, section 11.2). -/

namespace Sys2Proof.Machine

/-- The table set a READ names. -/
def tableSet (s : State) : SetName → TableSet
  | .active => s.active
  | .staged => s.staging.staged

/-- `n` fields of two bytes, filled with 0 (R196). -/
def filledWords (n : Nat) (l : List (BitVec 16)) : List Byte :=
  (List.range n).flatMap fun i => wordBytes (l.getD i 0)

/-- READ of a PATCH ENTRY, 5 bytes (R167). -/
def readPatchEntry : Option PatchEntry → List Byte
  | none => [0, 0, 0, 0xFF, 0]
  | some e =>
    [1, byteOf e.stream, byteOf e.coarse, (match e.fine with | none => 0xFF | some f => byteOf f), byteOf e.curve]

/-- READ of a CHANNEL CONFIGURATION, 6 bytes (R167). -/
def readChannelConfig (g : ChannelConfig) : List Byte :=
  [byteOf g.profile, mergeRuleCode g.mergeRule] ++ wordBytes g.rest ++ [faultActionCode g.faultAction, byteOf g.phase]

/-- The written bounds of a profile: all but the last (R42). -/
def writtenBounds (p : Profile) : List (BitVec 16) := p.segments.dropLast.map fun g => BitVec.ofNat 16 g.bound

/-- READ of a PROFILE, 9 bytes in part 0 and 18 in part 1 (R168). -/
def readProfile (p : Option Profile) (part : Fin 2) : List Byte :=
  match p, part with
  | none, ⟨0, _⟩ => List.replicate 9 0
  | none, _ => List.replicate 18 0
  | some q, ⟨0, _⟩ => [1, q.delay, byteOf q.segments.length] ++ filledWords 3 (writtenBounds q)
  | some q, _ => [1, byteOf q.segments.length] ++ filledWords 8 (q.segments.flatMap fun g => [g.rise, g.fall])

/-- The state of a curve as reported: IDENTITY for curve 0 (R169). -/
def curveStateCode (t : TableSet) (n : Fin 8) : Byte :=
  if n.val = 0 then 2 else flagCode (curveOf t n).isSome

/-- READ of a CURVE: p0 to p5, p6 to p11, or p12 to p16 (R169). -/
def readCurve (t : TableSet) (n : Fin 8) (part : Fin 3) : List Byte :=
  let points : List (BitVec 16) :=
    match curveOf t n with
    | some p => ((List.finRange 17).map p.get).drop (6 * part.val)
    | none => []
  curveStateCode t n :: filledWords (if part.val = 2 then 5 else 6) points

/-- The entries of a scene in ascending channel order (R25). -/
def sceneEntries (sc : Scene) : List Level := channels.filterMap sc.get

/-- READ of a SCENE, 17 bytes (R169). -/
def readScene (sc : Option Scene) (part : Fin 4) : List Byte :=
  match sc with
  | none => List.replicate 17 0
  | some x =>
    let entries := ((sceneEntries x).drop (6 * part.val)).take 6
    [1] ++ maskBytes (maskWhere fun c => (x.get c).isSome) ++ [byteOf entries.length] ++ filledWords 6 entries

/-- The override fields of channel status: origin, stream, level (R39, R170). -/
def readOverride : Option Override → List Byte
  | none => [0, 0, 0, 0]
  | some o =>
    (match o.origin with
      | .command => [1, 0]
      | .loss i => [2, byteOf i]) ++ wordBytes o.level

/-- A contribution in channel status: present and curved value, 0 when absent (R17, R170). -/
def readContribution (x : Contribution) : List Byte :=
  flagCode x.present :: (if x.present then wordBytes x.curved else [0, 0])

/-- READ of CHANNEL STATUS, 17 bytes (R170). -/
def readChannelStatus (s : State) (c : Channel) : List Byte :=
  let r := s.ramps.get c
  [rampStateCode r.state] ++ wordBytes r.level ++ wordBytes (s.target.targets.get c)
    ++ readOverride (s.target.overrides.get c)
    ++ [latchCode (s.output.monitors.get c).latch, auditResultCode (s.audit.results.get c)]
    ++ readContribution (contributionAt s c .a) ++ readContribution (contributionAt s c .b)

/-- READ of STREAM STATUS, 12 bytes (R171). -/
def readStreamStatus (r : StreamRecord) : List Byte :=
  [flagCode (enabled r), streamStateCode r.state] ++ wordBytes (timeoutField r.timeout)
    ++ [policyCode r.policy, policySceneCode r.policy]
    ++ numberBytes r.measured ++ numberBytes r.ticks ++ numberBytes (effectiveTimeout r)

/-- READ of NODE STATUS, 17 bytes (R171). -/
def readNodeStatus (s : State) : List Byte :=
  [s.ring.address, byteOf s.command.groups.length]
    ++ (List.range 4).map (fun i => s.command.groups.getD i 0)
    ++ [stagingCode s.staging.state] ++ wordBytes (stagingEpoch s.staging.state)
    ++ [flagCode s.output.switchOn, thermalCode s.output.thermal, flagCode s.audit.run.isSome,
        (match underTest s.audit with | some c => byteOf c | none => 0xFF),
        byteOf s.command.queue.length, byteOf s.command.replies.length]
    ++ wordBytes s.output.ceiling

/-- The data of a READ (R166 to R171). -/
def readData (s : State) : ReadItem → List Byte
  | .patchEntry t k => readPatchEntry ((tableSet s t).patch.get k)
  | .channelConfig t c => readChannelConfig ((tableSet s t).config.get c)
  | .profile t p j => readProfile (profileOf (tableSet s t) p) j
  | .curve t c j => readCurve (tableSet s t) c j
  | .scene t n j => readScene ((tableSet s t).scenes.get n) j
  | .channelStatus c => readChannelStatus s c
  | .streamStatus i => readStreamStatus (s.streams.get i)
  | .nodeStatus => readNodeStatus s

/-- The four fields of a validation failure, with their codes (R123, section 11.5). -/
def invalidBytes (v : Invalid) : List Byte :=
  [match v.table with | .patch => 1 | .channel => 2 | .override => 3 | .stream => 4,
   byteOf v.index,
   match v.reason with | .curve => 1 | .profile => 2 | .scene => 3,
   byteOf v.reference]

/-- The four tallies of an audit's reply (R164). -/
def tallyBytes (t : Tallies) : List Byte := [byteOf t.pass, byteOf t.openLoad, byteOf t.shortLoad, byteOf t.skipped]

/-- The record that holds a sequence number: in the running slot, then the command queue, then the reply list (R144). -/
def findRecord (u : CommandUnit) (seq : Byte) : Option Record :=
  (u.running.toList ++ u.queue ++ u.replies).find? fun r => r.seq == seq

/-- The 24 bytes of the answer area for a record found or not (R144, R194). -/
def answerArea : Option Record → List Byte
  | none => 1 :: List.replicate 23 0
  | some r =>
    match r.status with
    | .queued => statusCode .queued :: r.code :: List.replicate 22 0
    | .running => statusCode .running :: r.code :: List.replicate 22 0
    | .done =>
      [statusCode .done, r.code, resultCode r.result, byteOf r.data.length]
        ++ (List.range 20).map fun i => r.data.getD i 0
    | .refused =>
      [statusCode .refused, r.code, resultCode r.result, byteOf r.data.length]
        ++ (List.range 20).map fun i => r.data.getD i 0

/-- The answer to a POLL of a sequence number, all from one lookup (R144, R145). -/
def pollAnswer (s : State) (seq : Byte) : List Byte := answerArea (findRecord s.command seq)

end Sys2Proof.Machine
end

