-- ==== Sys2Proof/Machine/Audit.lean ====
section
/-! DEFINITION. The load audit (chapter 6): taking channels, classifying, completion and abort; and the adding of a record to
the reply list (R137), which the end of an audit needs. -/

namespace Sys2Proof.Machine

/-- A record is added to the reply list; from a list that already holds 8 the oldest is removed first (R137). -/
def addReply (r : Record) (u : CommandUnit) : CommandUnit :=
  { u with replies := (if 8 ≤ u.replies.length then u.replies.tail else u.replies) ++ [r] }

/-- Takes the first channel of a list that is in the mask and is not latched under FORCE_OFF; channels of the mask latched
under FORCE_OFF that come before it are SKIPPED. No channel under test is left where there is none to take (R99). -/
def takeChannel (forced : Channel → Bool) : List Channel → AuditRun → Tab 24 AuditResult → AuditRun × Tab 24 AuditResult
  | [], run, results => ({ run with under := none }, results)
  | c :: rest, run, results =>
    if inMask run.mask c then
      if forced c then
        takeChannel forced rest
          { run with tallies := { run.tallies with skipped := run.tallies.skipped + 1 } } (results.put c .skipped)
      else ({ run with under := some c, periods := 0 }, results)
    else takeChannel forced rest run results

/-- The audit unit takes the next channel of a list by R99. -/
def takeNext (list : List Channel) (run : AuditRun) (results : Tab 24 AuditResult) (s : State) : State :=
  let taken := takeChannel (forcedOff s) list run results
  { s with audit := { run := some taken.1, results := taken.2 } }

/-- The end of an audit (R101, R103): IDLE, and the START AUDIT's record moves from the running slot to the reply list, DONE,
with the result and the tallies. In IDLE there are no tallies (R96): they stand in that record alone, where R101 says that they
stand until the next START AUDIT or a reset (DESIGN CHOICE, assumption 26). -/
def endAudit (result : ResultCode) (s : State) : State :=
  match s.audit.run with
  | none => s
  | some run =>
    let idle := { s with audit := { s.audit with run := none } }
    match s.command.running with
    | none => idle
    | some r =>
      let ended := { r with status := .done, result := some result, data := tallyBytes run.tallies, params := [] }
      { idle with command := addReply ended { s.command with running := none } }

/-- The abort of a running audit: the channel under test is ABORTED and the audit ends (R103). -/
def abortAudit (s : State) : State :=
  match s.audit.run with
  | none => s
  | some run =>
    let marked :=
      match run.under with
      | some c => s.audit.results.put c .aborted
      | none => s.audit.results
    endAudit .aborted { s with audit := { s.audit with results := marked } }

/-- The beginning of an audit (R98): the table all NOT_TESTED, the record with its tallies 0, and the first channel taken. -/
def beginAudit (mask : Mask) (testLevel : Level) (dwell : Nat) (s : State) : State :=
  takeNext channels
    { mask := mask, testLevel := testLevel, dwell := dwell, under := none, periods := 0, tallies := .zero }
    (Tab.all .notTested) s

/-- The entry that a period report gives the channel under test (R100). -/
def classify (r : PeriodReport) : AuditResult :=
  if r.driven = false then .skipped
  else
    match r.sense with
    | none => .pass
    | some .openLoad => .openLoad
    | some .shortLoad => .shortLoad

/-- The tally that a result increments (R99, R100). -/
def tally (t : Tallies) : AuditResult → Tallies
  | .pass => { t with pass := t.pass + 1 }
  | .openLoad => { t with openLoad := t.openLoad + 1 }
  | .shortLoad => { t with shortLoad := t.shortLoad + 1 }
  | .skipped => { t with skipped := t.skipped + 1 }
  | .notTested => t
  | .aborted => t

/-- The channel under test is classified from its period report, and the next channel of the mask above it is taken (R100). -/
def classifyAndTake (run : AuditRun) (c : Channel) (s : State) : State :=
  let result := classify (s.output.reports.get c)
  takeNext (channels.filter fun d => decide (c < d)) { run with tallies := tally run.tallies result, under := none }
    (s.audit.results.put c result) s

/-- The periods counted of the channel under test are incremented (R100). -/
def countPeriod (s : State) : State :=
  match s.audit.run with
  | some run => { s with audit := { s.audit with run := some { run with periods := run.periods + 1 } } }
  | none => s

/-- An audit with no channel under test and no channel of its mask left to take (R101). -/
def auditExhausted (a : AuditUnit) : Bool :=
  match a.run with
  | some run => run.under.isNone && (maskChannels run.mask).all fun c => a.results.get c != .notTested
  | none => false

end Sys2Proof.Machine
end

