-- ==== Sys2Proof/Machine/Command.lean ====
section
/-! DEFINITION. The command unit (chapter 8) and the effects of the 21 commands (chapters 1 to 9): the duplicate check,
classes, execution on acceptance, the queue and its draining, and the reply records. -/

namespace Sys2Proof.Machine

/-- How a command whose parameters are right ends: DONE with result OK and its data, REFUSED with a result code and data, or
not yet, its audit begun (R138, R142). -/
inductive Ended where
  | done (data : List Byte)
  | refused (code : ResultCode) (data : List Byte)
  | began
deriving DecidableEq, Repr

/-! ### Effects of the commands -/

/-- SET GROUPS (R146): the group set is replaced; it is held in ascending order. -/
def effectSetGroups (numbers : List Byte) (s : State) : State × Ended :=
  ({ s with command := { s.command with
      groups := ((List.range 64).map byteOf).filter fun g => numbers.contains g } }, .done [])

/-- A table write: refused with BAD_STATE while ARMED, else the item is replaced in the staged set and the state becomes
EDITED (R115). -/
def stage (write : TableSet → TableSet) (s : State) : State × Ended :=
  match s.staging.state with
  | .armed _ => (s, .refused .badState [])
  | _ => ({ s with staging := { staged := write s.staging.staged, state := .edited } }, .done [])

/-- WRITE PATCH (R116). -/
def effectWritePatch (k : Key) (e : Option PatchEntry) (s : State) : State × Ended :=
  stage (fun t => { t with patch := t.patch.put k e }) s

/-- WRITE CHANNEL (R117). -/
def effectWriteChannel (c : Channel) (g : ChannelConfig) (s : State) : State × Ended :=
  stage (fun t => { t with config := t.config.put c g }) s

/-- WRITE PROFILE (R118). -/
def effectWriteProfile (n : Fin 15) (p : Option Profile) (s : State) : State × Ended :=
  stage (fun t => { t with profiles := t.profiles.put n p }) s

/-- WRITE CURVE (R119). -/
def effectWriteCurve (n : Fin 7) (c : Option Curve) (s : State) : State × Ended :=
  stage (fun t => { t with curves := t.curves.put n c }) s

/-- WRITE SCENE (R120). -/
def effectWriteScene (n : Fin 8) (x : Option Scene) (s : State) : State × Ended :=
  stage (fun t => { t with scenes := t.scenes.put n x }) s

/-- COPY ACTIVE (R121). -/
def effectCopyActive (s : State) : State × Ended :=
  ({ s with staging := { staged := s.active, state := .clean } }, .done [])

/-- The outcome of a validation: refused with INVALID_SET and the four fields, or whatever follows (R123). -/
def validated (s : State) (passed : State × Ended) : State × Ended :=
  match validate s.staging.staged s.target.overrides s.streams with
  | some v => (s, .refused .invalidSet (invalidBytes v))
  | none => passed

/-- ARM (R124). -/
def effectArm (epoch : BitVec 16) (s : State) : State × Ended :=
  let armed := ({ s with staging := { s.staging with state := .armed epoch } }, Ended.done [])
  match s.staging.state with
  | .armed _ => armed
  | _ => validated s armed

/-- DISARM (R125). -/
def effectDisarm (s : State) : State × Ended :=
  match s.staging.state with
  | .armed _ => ({ s with staging := { s.staging with state := .edited } }, .done [])
  | _ => (s, .done [])

/-- COMMIT NOW (R126). -/
def effectCommitNow (s : State) : State × Ended :=
  match s.staging.state with
  | .clean => (s, .done [])
  | .edited => validated s (commit s, .done [])
  | .armed _ => (commit s, .done [])

/-- Whether something is defined in the active set and, if staging is ARMED, in the staged set as well (R26, R68). -/
def definedInBoth (s : State) (isDefined : TableSet → Bool) : Bool :=
  isDefined s.active &&
    match s.staging.state with
    | .armed _ => isDefined s.staging.staged
    | _ => true

/-- The disable of a stream that is enabled (R70, R12, R33). -/
def disableStream (i : StreamId) (r : StreamRecord) (s : State) : State :=
  let s0 := setStream i { r with state := .disabled, measured := 0, ticks := 0 } s
  let s1 := dropValues i s0
  recompute (fun c => handedOn s0.patch s1.patch c || heldByLoss s1 i c) (reverseLoss i s1)

/-- A new loss policy recorded on a LOST stream, `old` being the one it had (R34, R73). -/
def changeLostPolicy (i : StreamId) (old : LossPolicy) (s : State) : State :=
  let new := (s.streams.get i).policy
  if new = old then s
  else
    let s1 := reverseLoss i s
    let s2 :=
      match new with
      | .scene n => applyLossScene i n s1
      | _ => s1
    recompute (fun c => heldByLoss s i c || overrideDiffers s s2 c
      || (((old == .hold) != (new == .hold)) && hasPresent s i c)) s2

/-- What SET STREAM does to a stream once its checks have passed (R69 to R73). -/
def applySetStream (i : StreamId) (enable : Bool) (timeout : TimeoutSetting) (policy : LossPolicy) (s : State) : State :=
  let old := s.streams.get i
  let r := { old with timeout := timeout, policy := policy }
  match old.state, enable with
  | .disabled, true => setStream i { r with state := .silent, measured := 0, ticks := 0 } s
  | .disabled, false => setStream i r s
  | .silent, true => setStream i r s
  | .live, true => examineExpiry i (setStream i r s)
  | .lost, true => changeLostPolicy i old.policy (setStream i r s)
  | _, false => disableStream i r s

/-- SET STREAM (R68, R69); its data are the stream's state after the command (R159). -/
def effectSetStream (i : StreamId) (enable : Bool) (timeout : TimeoutSetting) (policy : LossPolicy) (s : State) :
    State × Ended :=
  let refs :=
    match policy with
    | .scene n => definedInBoth s fun t => (t.scenes.get n).isSome
    | _ => true
  if refs then
    let s' := applySetStream i enable timeout policy s
    (s', .done [streamStateCode (s'.streams.get i).state])
  else (s, .refused .undefinedRef [])

/-- The channels a RECALL SCENE acts on: those both in its mask and named by the scene (R27). -/
def recalled (s : State) (n : Fin 8) (mask : Option Mask) (c : Channel) : Bool :=
  (match mask with | some m => inMask m c | none => true) && (sceneLevel s.active n c).isSome

/-- RECALL SCENE (R26, R27); its data are the number of overrides set (R160). DESIGN CHOICE (assumption 27): in ARMED a scene
that the active set defines and the staged set lacks is accepted, since the three checks of R26, which R160 repeats, look the
scene up in the active set alone; R114 and the last row of R129 can be read as refusing it with UNDEFINED_REF. -/
def effectRecallScene (n : Fin 8) (mask : Option Mask) (profile : Option (Fin 16)) (s : State) : State × Ended :=
  let profileOk :=
    match profile with
    | some p => definedInBoth s fun t => (profileOf t p).isSome
    | none => true
  if (s.active.scenes.get n).isSome && profileOk then
    let s' := { s with target := { s.target with
        overrides := Tab.of fun c =>
          match sceneLevel s.active n c with
          | some l =>
            if recalled s n mask c then some { origin := .command, level := l, profile := profile }
            else s.target.overrides.get c
          | none => s.target.overrides.get c } }
    (recompute (recalled s n mask) s', .done [byteOf (countChannels (recalled s n mask))])
  else (s, .refused .undefinedRef [])

/-- RELEASE (R28); its data are the numbers of overrides removed and set again (R161). -/
def effectRelease (mask : Mask) (s : State) : State × Ended :=
  let chosen := fun c => inMask mask c && (s.target.overrides.get c).isSome
  let s' := reexamine chosen (removeOverrides chosen s)
  (recompute chosen s',
    .done [byteOf (countChannels chosen),
           byteOf (countChannels fun c => chosen c && (s'.target.overrides.get c).isSome)])

/-- OUTPUTS ON (R78). -/
def effectOutputsOn (s : State) : State × Ended :=
  (formOutputs { s with output := { s.output with switchOn := true } }, .done [])

/-- OUTPUTS OFF, and the abort of a running audit (R79). -/
def effectOutputsOff (s : State) : State × Ended :=
  (formOutputs (abortAudit { s with output := { s.output with switchOn := false } }), .done [])

/-- CLEAR FAULTS (R90); its data are the number of latches cleared (R163). -/
def effectClearFaults (mask : Mask) (s : State) : State × Ended :=
  (formOutputs { s with output := { s.output with
      monitors := Tab.of fun c =>
        let m := s.output.monitors.get c
        if inMask mask c then { m with count := 0, latch := none } else m } },
    .done [byteOf (countChannels fun c => inMask mask c && (s.output.monitors.get c).latch.isSome)])

/-- START AUDIT (R97, R98): refused with BAD_STATE while the outputs are OFF or the condition is HOT; an audit whose every
channel is skipped completes within the event. -/
def effectStartAudit (mask : Mask) (testLevel : Level) (dwell : Nat) (s : State) : State × Ended :=
  if s.output.switchOn = false ∨ s.output.thermal = .hot then (s, .refused .badState [])
  else
    let s1 := beginAudit mask testLevel dwell s
    match s1.audit.run with
    | some run =>
      if run.under.isSome then (formOutputs s1, .began)
      else
        (formOutputs { s1 with audit := { s1.audit with run := none } }, .done (tallyBytes run.tallies))
    | none => (s1, .done [])

/-- ABORT AUDIT (R104); with no audit running it changes nothing. -/
def effectAbortAudit (s : State) : State × Ended :=
  (if s.audit.run.isSome then formOutputs (abortAudit s) else s, .done [])

/-- SET CEILING (R80). -/
def effectSetCeiling (level : Level) (s : State) : State × Ended :=
  (formOutputs { s with output := { s.output with ceiling := level } }, .done [])

/-- READ (R166): it changes no state. -/
def effectRead (item : ReadItem) (s : State) : State × Ended := (s, .done (readData s item))

/-- NODE RESET (R150, R173): the collections are emptied, then every block is reset; the address and the group set are kept. -/
def effectNodeReset (s : State) : State × Ended :=
  (resetBlocks { s with command := { s.command with running := none, queue := [], replies := [] } }, .done [])

/-- Step 3 of R138 and the effect of a command, by the block that owns it. -/
def effect : Cmd → State → State × Ended
  | .setGroups l => effectSetGroups l
  | .writePatch k e => effectWritePatch k e
  | .writeChannel c g => effectWriteChannel c g
  | .writeProfile n p => effectWriteProfile n p
  | .writeCurve n c => effectWriteCurve n c
  | .writeScene n x => effectWriteScene n x
  | .copyActive => effectCopyActive
  | .arm e => effectArm e
  | .disarm => effectDisarm
  | .commitNow => effectCommitNow
  | .setStream i e t p => effectSetStream i e t p
  | .recallScene n m p => effectRecallScene n m p
  | .release m => effectRelease m
  | .outputsOn => effectOutputsOn
  | .outputsOff => effectOutputsOff
  | .clearFaults m => effectClearFaults m
  | .startAudit m l d => effectStartAudit m l d
  | .abortAudit => effectAbortAudit
  | .setCeiling l => effectSetCeiling l
  | .read i => effectRead i
  | .nodeReset => effectNodeReset

/-! ### Execution and the three collections -/

/-- The record of a command that has ended (R136). -/
def endedRecord (seq code : Byte) (status : Status) (result : ResultCode) (data : List Byte) : Record :=
  { seq := seq, code := code, status := status, result := some result, data := data, params := [] }

/-- A command that has ended adds its record to the reply list (R137). -/
def reply (seq code : Byte) (status : Status) (result : ResultCode) (data : List Byte) (s : State) : State :=
  { s with command := addReply (endedRecord seq code status result data) s.command }

/-- A command is executed: its checks in order, its effect, and its record (R138). -/
def execute (seq code : Byte) (params : List Byte) (s : State) : State :=
  match parse code params with
  | .error e => reply seq code .refused e [] s
  | .ok c =>
    match effect c s with
    | (s', .done data) => reply seq code .done .ok data s'
    | (s', .refused e data) => reply seq code .refused e data s'
    | (s', .began) =>
      { s' with command := { s'.command with
          running := some
            { seq := seq, code := code, status := .running, result := none, data := [], params := [] } } }

/-- At most so many records are drained from the command queue, oldest first; draining stops at a START AUDIT whose audit
begins, and where the queue is empty (R140). -/
def drainQueue : Nat → State → State
  | 0, s => s
  | n + 1, s =>
    match s.command.queue with
    | [] => s
    | r :: rest =>
      let s' := execute r.seq r.code r.params { s with command := { s.command with queue := rest } }
      if s'.command.running.isSome then s' else drainQueue n s'

/-- The command queue is drained (R140). -/
def drain (s : State) : State := drainQueue s.command.queue.length s

/-- The queue drains where an event has ended the command in the running slot (R140, R141). -/
def drainIfEnded (before after : State) : State :=
  if before.command.running.isSome && after.command.running.isNone then drain after else after

/-- Whether a sequence number is held by a record of the three collections (R135). -/
def isHeld (u : CommandUnit) (seq : Byte) : Bool := (findRecord u seq).isSome

/-- A command addressed to this node is taken: the duplicate check, then by its class and by what the collections hold (R135,
R138, R139, R141, R150). A running slot that is empty with a queue that is not does not occur (R139, assumption 14). -/
def takeCommand (seq code : Byte) (params : List Byte) (s : State) : State :=
  if isHeld s.command seq then s
  else if isUrgent code then drainIfEnded s (execute seq code params s)
  else if isNodeStatusRead code params then execute seq code params s
  else if s.command.running.isNone then execute seq code params s
  else if s.command.queue.length < 4 then
    { s with command := { s.command with
        queue := s.command.queue ++
          [{ seq := seq, code := code, status := .queued, result := none, data := [], params := params }] } }
  else reply seq code .refused .queueFull [] s

/-- A command row: no command reaches the node while the bypass is engaged (R188), and none of more than 64 parameter bytes is
accepted (R133). -/
def commandRow (code seq : Byte) (params : List Byte) (s : State) : State :=
  if ringConnected s && decide (params.length ≤ 64) then takeCommand seq code params s else s

/-- Whether a COMMAND frame is addressed to this node (R134), its destination number in the range of its mode (R133). -/
def addressed (s : State) (mode number : Byte) : Bool :=
  if mode = 1 then decide (1 ≤ number.toNat ∧ number.toNat ≤ 250) && number == s.ring.address
  else if mode = 2 then decide (1 ≤ number.toNat ∧ number.toNat ≤ 63) && s.command.groups.contains number
  else mode == 3 && number == 0

/-- A COMMAND frame accepted by the ring: the body checks of R133, the addressing of R134, and the command is taken. -/
def commandBody (length : BitVec 16) (body : List Byte) (s : State) : State :=
  match body with
  | mode :: number :: seq :: code :: p :: params =>
    if p.toNat ≤ 64 ∧ length.toNat = 5 + p.toNat ∧ params.length = p.toNat ∧ addressed s mode number = true then
      takeCommand seq code params s
    else s
  | _ => s

/-! ### Events of other blocks that end an audit -/

/-- The dwell of the channel under test has ended: it is classified and the next channel is taken; where there is none the
audit completes (R100, R101). The queue is not drained yet. -/
def closeDwell (s : State) : State :=
  match s.audit.run with
  | some run =>
    match run.under with
    | some c =>
      if run.dwell ≤ run.periods then
        let s1 := classifyAndTake run c s
        if (underTest s1.audit).isSome then formOutputs s1
        else formOutputs (endAudit .ok s1)
      else s
    | none => s
  | none => s

/-- The end of a dwell, and the draining of the queue where the audit has completed (R100, R101, R140). -/
def dwellEnd (s : State) : State := drainIfEnded s (closeDwell s)

/-- An audit with no channel left completes, and the queue drains (R101, R140). -/
def completeAudit (s : State) : State :=
  if auditExhausted s.audit then drainIfEnded s (formOutputs (endAudit .ok s)) else s

/-- A change of thermal condition, taken whole (R82): the output levels are formed, and entry into HOT aborts a running audit
and drains the queue (R105). -/
def changeThermal (new : Thermal) (s : State) : State :=
  let changed := { s with output := { s.output with thermal := new } }
  if new = .hot then drainIfEnded s (formOutputs (abortAudit changed)) else formOutputs changed

end Sys2Proof.Machine
end

