-- ==== Sys2Proof/Machine/Commands.lean ====
section
/-! DEFINITION. The command rows (chapter 9): each is the taking, by the command unit, of a command of that code addressed to
this node (assumption 5): duplicate check, class, queue, execution and reply record (R135 to R141), then the effect of the
rule named. -/

namespace Sys2Proof.Machine

/-- SET_GROUPS (R146). -/
def execSetGroups (seq : Byte) (params : List Byte) (s : State) : Host.Outcome State Fault Refusal :=
  .next (commandRow codeSetGroups seq params s)

/-- WRITE_PATCH (R116). -/
def execWritePatch (seq : Byte) (params : List Byte) (s : State) : Host.Outcome State Fault Refusal :=
  .next (commandRow codeWritePatch seq params s)

/-- WRITE_CHANNEL (R117). -/
def execWriteChannel (seq : Byte) (params : List Byte) (s : State) : Host.Outcome State Fault Refusal :=
  .next (commandRow codeWriteChannel seq params s)

/-- WRITE_PROFILE (R118). -/
def execWriteProfile (seq : Byte) (params : List Byte) (s : State) : Host.Outcome State Fault Refusal :=
  .next (commandRow codeWriteProfile seq params s)

/-- WRITE_CURVE (R119). -/
def execWriteCurve (seq : Byte) (params : List Byte) (s : State) : Host.Outcome State Fault Refusal :=
  .next (commandRow codeWriteCurve seq params s)

/-- WRITE_SCENE (R120). -/
def execWriteScene (seq : Byte) (params : List Byte) (s : State) : Host.Outcome State Fault Refusal :=
  .next (commandRow codeWriteScene seq params s)

/-- COPY_ACTIVE (R121). -/
def execCopyActive (seq : Byte) (params : List Byte) (s : State) : Host.Outcome State Fault Refusal :=
  .next (commandRow codeCopyActive seq params s)

/-- ARM (R124). -/
def execArm (seq : Byte) (params : List Byte) (s : State) : Host.Outcome State Fault Refusal :=
  .next (commandRow codeArm seq params s)

/-- DISARM (R125). -/
def execDisarm (seq : Byte) (params : List Byte) (s : State) : Host.Outcome State Fault Refusal :=
  .next (commandRow codeDisarm seq params s)

/-- COMMIT_NOW (R126). -/
def execCommitNow (seq : Byte) (params : List Byte) (s : State) : Host.Outcome State Fault Refusal :=
  .next (commandRow codeCommitNow seq params s)

/-- SET_STREAM (R68 to R73). -/
def execSetStream (seq : Byte) (params : List Byte) (s : State) : Host.Outcome State Fault Refusal :=
  .next (commandRow codeSetStream seq params s)

/-- RECALL_SCENE (R26, R27). -/
def execRecallScene (seq : Byte) (params : List Byte) (s : State) : Host.Outcome State Fault Refusal :=
  .next (commandRow codeRecallScene seq params s)

/-- RELEASE (R28). -/
def execRelease (seq : Byte) (params : List Byte) (s : State) : Host.Outcome State Fault Refusal :=
  .next (commandRow codeRelease seq params s)

/-- OUTPUTS_ON (R78). -/
def execOutputsOn (seq : Byte) (params : List Byte) (s : State) : Host.Outcome State Fault Refusal :=
  .next (commandRow codeOutputsOn seq params s)

/-- OUTPUTS_OFF (R79, R141). -/
def execOutputsOff (seq : Byte) (params : List Byte) (s : State) : Host.Outcome State Fault Refusal :=
  .next (commandRow codeOutputsOff seq params s)

/-- CLEAR_FAULTS (R90). -/
def execClearFaults (seq : Byte) (params : List Byte) (s : State) : Host.Outcome State Fault Refusal :=
  .next (commandRow codeClearFaults seq params s)

/-- START_AUDIT (R97 to R99). -/
def execStartAudit (seq : Byte) (params : List Byte) (s : State) : Host.Outcome State Fault Refusal :=
  .next (commandRow codeStartAudit seq params s)

/-- ABORT_AUDIT (R104, R141). -/
def execAbortAudit (seq : Byte) (params : List Byte) (s : State) : Host.Outcome State Fault Refusal :=
  .next (commandRow codeAbortAudit seq params s)

/-- SET_CEILING (R80). -/
def execSetCeiling (seq : Byte) (params : List Byte) (s : State) : Host.Outcome State Fault Refusal :=
  .next (commandRow codeSetCeiling seq params s)

/-- READ (R138, R166 to R172). -/
def execRead (seq : Byte) (params : List Byte) (s : State) : Host.Outcome State Fault Refusal :=
  .next (commandRow codeRead seq params s)

/-- NODE_RESET (R150, R173). -/
def execNodeReset (seq : Byte) (params : List Byte) (s : State) : Host.Outcome State Fault Refusal :=
  .next (commandRow codeNodeReset seq params s)

end Sys2Proof.Machine
end

