-- ==== Sys2Proof/Config.lean ====
section
/-! DEFINITION. What the specification leaves to each part: the free values. Each is a constant without a body, so nothing
can be proved of its value. -/

namespace Sys2Proof

/-- FREE VALUE (assumption 3). At the `k`-th change of the bypass the break-before-make switch holds RING OUT in mark for
"between 4 and 10 character times" (R189); this is the number of character times above 4, so the hold lies in 4 to 10. -/
opaque Config.switchHoldAbove4 : Nat → Fin 7

end Sys2Proof
end

