-- ==== Sys2Proof/Machine/Flags.lean ====
section
/-! DEFINITION. Every flag the node reports: the eight flags of the health byte (R187, section 11.3). -/

namespace Sys2Proof.Machine

/-- The health byte's OUTPUTS_ON flag (R93). -/
def flagOutputsOn (s : State) : Bool := s.output.switchOn

/-- The health byte's WARM flag (R93). -/
def flagWarm (s : State) : Bool := s.output.thermal == .warm

/-- The health byte's HOT flag (R93). -/
def flagHot (s : State) : Bool := s.output.thermal == .hot

/-- The health byte's FAULT flag (R93). -/
def flagFault (s : State) : Bool := anyLatch s

/-- The health byte's LOST flag (R75). -/
def flagLost (s : State) : Bool := anyLost s

/-- The health byte's ARMED flag, whatever the epoch (R130). -/
def flagArmed (s : State) : Bool :=
  match s.staging.state with
  | .armed _ => true
  | _ => false

/-- The health byte's AUDIT flag (R109). -/
def flagAudit (s : State) : Bool := s.audit.run.isSome

/-- The health byte's BUSY flag (R148). -/
def flagBusy (s : State) : Bool := !s.command.queue.isEmpty

/-- A flag at its bit weight. -/
def weighted (flag : Bool) (weight : Byte) : Byte := if flag then weight else 0

/-- The health byte (R187), with the bit weights of section 11.3. -/
def healthByte (s : State) : Byte :=
  weighted (flagOutputsOn s) 0x80 ||| weighted (flagWarm s) 0x40 ||| weighted (flagHot s) 0x20
    ||| weighted (flagFault s) 0x10 ||| weighted (flagLost s) 0x08 ||| weighted (flagArmed s) 0x04
    ||| weighted (flagAudit s) 0x02 ||| weighted (flagBusy s) 0x01

end Sys2Proof.Machine
end

