-- ==== Sys2Proof/Machine/Ring.lean ====
section
/-! DEFINITION. The ring interface (chapter 10): the receiver, the two running CRCs, in-flight writing, the verdict at frame
end and the handing on of an accepted frame, the line events, the bypass and the resets. -/

namespace Sys2Proof.Machine

/-! ### The frame CRC (R178) -/

/-- One shift of the CRC register. -/
def crcShift (r : BitVec 16) : BitVec 16 := if r.msb then (r <<< 1) ^^^ 0x1021 else r <<< 1

/-- One byte enters a running CRC (R178). -/
def crcByte (r : BitVec 16) (b : Byte) : BitVec 16 :=
  crcShift (crcShift (crcShift (crcShift (crcShift (crcShift (crcShift (crcShift (r ^^^ wordOf b 0))))))))

/-- The running CRC of bytes, loaded with FFFFh (R178). -/
def crcOf (bytes : List Byte) : BitVec 16 := bytes.foldl crcByte 0xFFFF

/-! ### RING OUT -/

/-- How many bit times a stretch of line takes (R175). -/
def symBits : LineSym → Nat
  | .char _ => 10
  | .badChar _ => 10
  | .space bits => bits
  | .mark bits => bits
  | .held characterTimes => 10 * characterTimes
  | .cut bits _ _ => bits

/-- What is left of a stretch of line whose first `h` bit times fall within the hold of the bypass switch (R189). -/
def afterHold (h : Nat) (x : LineSym) : List LineSym :=
  if h = 0 then [x]
  else if symBits x ≤ h then []
  else
    match x with
    | .char b => [.cut (10 - h) b true]
    | .badChar b => [.cut (10 - h) b false]
    | .space bits => [.space (bits - h)]
    | .mark bits => [.mark (bits - h)]
    | .held characterTimes => [.held characterTimes]
    | .cut bits b stopInMark => [.cut (bits - h) b stopInMark]

/-- RING OUT sends a stretch of line, but for what falls within the hold of the bypass switch, which stands in mark (R189). -/
def send (x : LineSym) (s : State) : State :=
  { s with ring := { s.ring with
      out := s.ring.out ++ afterHold s.ring.holdLeft x, holdLeft := s.ring.holdLeft - symBits x } }

/-- A new line event: what RING OUT sent in answer to the one before is dropped. -/
def clearOut (s : State) : State := { s with ring := { s.ring with out := [] } }

/-- By how many character times RING OUT is behind RING IN (R180, R188). -/
def forwardDelay (s : State) : Nat := if ringConnected s then 1 else 0

/-! ### In-flight writing (R181 to R187) -/

/-- The counter an ENUMERATE leaves with (R183). -/
def enumerateCounterOut (c : Byte) : Byte := if c.toNat < 250 then c + 1 else c

/-- The flags an ENUMERATE leaves with, `c` being the counter received: the overflow flag, the bit of weight 01h, is set where
the counter was 250 or above (R183). -/
def enumerateFlagsOut (c flags : Byte) : Byte := if c.toNat < 250 then flags else flags ||| 1

/-- What is sent in place of the body byte at position `j` (R181, R183, R185, R186). -/
def bodyByteOut (s : State) (j : Nat) (b : Byte) : Byte :=
  match s.ring.plan with
  | .repeated => b
  | .pollMatched => b
  | .enumerate =>
    if j = 0 then enumerateCounterOut b
    else if j = 1 then enumerateFlagsOut (s.ring.body.getD 0 0) b
    else b
  | .pollAnswer answer => if 2 ≤ j then answer.getD (j - 2) b else b
  | .health position => if j = position then healthByte s else b

/-- The in-flight plan once the body byte at position `j` has been received (R181, R185, R186); at the sequence byte of a POLL
the lookup is made (R145). -/
def planAfterBody (s : State) (j : Nat) (b : Byte) : Plan :=
  let r := s.ring
  if j = 0 then
    if r.kind = 3 ∧ r.length = 26 ∧ b = r.address ∧ r.address ≠ 0 then .pollMatched
    else if r.kind = 6 ∧ 1 ≤ b.toNat ∧ b.toNat ≤ 250 ∧ r.length.toNat = 1 + b.toNat
        ∧ 1 ≤ r.address.toNat ∧ r.address.toNat ≤ b.toNat then .health r.address.toNat
    else r.plan
  else if j = 1 ∧ r.plan = .pollMatched then .pollAnswer (pollAnswer s b)
  else r.plan

/-- The plan once LENGTH has been received: an ENUMERATE of LENGTH 2 is substituted (R181). -/
def planAfterLength (kind : Byte) (length : BitVec 16) : Plan :=
  if kind = 4 ∧ length = 2 then .enumerate else .repeated

/-- A CRC byte as sent: as received where nothing is substituted, else the exclusive-or of the byte received, the byte of the
CRC in and the byte of the CRC out (R182). -/
def crcByteOut (plan : Plan) (received crcIn crcOut : Byte) : Byte :=
  match plan with
  | .repeated => received
  | _ => received ^^^ crcIn ^^^ crcOut

/-! ### Frame end (R177, R179) -/

/-- The address adopted from an ENUMERATE accepted by the ring, from the counter and flags as received (R184). -/
def enumerateBody (length : BitVec 16) (body : List Byte) (s : State) : State :=
  match body with
  | c :: flags :: _ =>
    if length = 2 ∧ c.toNat ≤ 250 then
      let address : Byte := if c.toNat < 250 ∧ flags &&& 1 = 0 then c + 1 else 0
      { s with ring := { s.ring with address := address } }
    else s
  | _ => s

/-- A SYNC accepted by the ring: with LENGTH 2, a node armed for its epoch commits (R127). -/
def syncBody (length : BitVec 16) (body : List Byte) (s : State) : State :=
  match body with
  | e1 :: e0 :: _ =>
    if length = 2 ∧ s.staging.state = .armed (wordOf e1 e0) then commit s else s
  | _ => s

/-- A frame accepted by the ring is handed to the block that owns its kind; an accepted POLL or HEALTH has no effect, and a
frame of unknown KIND is ignored (R179, R185, R186). -/
def handOn (kind : Byte) (length : BitVec 16) (body : List Byte) (s : State) : State :=
  if kind = 1 then levelBody length body s
  else if kind = 2 then commandBody length body s
  else if kind = 4 then enumerateBody length body s
  else if kind = 5 then syncBody length body s
  else s

/-- A frame has ended whole with its last CRC byte: the verdict, and the effects of an accepted frame (R179). -/
def frameEnd (crcLow : Byte) (s : State) : State :=
  let r := s.ring
  let s' := { s with ring := { r with rx := .hunt } }
  if wordOf r.crcHigh crcLow = r.crcIn ∧ r.length.toNat ≤ 256 then handOn r.kind r.length r.body s' else s'

/-! ### The receiver (R176, R177) -/

/-- FRAME is entered: byte count 0, both running CRCs loaded with FFFFh, the in-flight plan clear (R176). -/
def enterFrame (s : State) : State :=
  { s with ring := { s.ring with
      rx := .frame, byteCount := 0, body := [], crcIn := 0xFFFF, crcOut := 0xFFFF, plan := .repeated } }

/-- The line has returned to mark: a lead-in in progress ends and the frame begins (R176). -/
def backToMark (s : State) : State := if s.ring.rx = .leadIn then enterFrame s else s

/-- A byte of a frame is received, and the byte that takes its place on RING OUT is sent (R177, R178, R180 to R186). -/
def frameByte (b : Byte) (s : State) : State :=
  let r := s.ring
  let n := r.byteCount
  let len := r.length.toNat
  if n = 0 then
    send (.char b)
      { s with ring := { r with byteCount := 1, kind := b, crcIn := crcByte r.crcIn b, crcOut := crcByte r.crcOut b } }
  else if n = 1 then
    send (.char b)
      { s with ring := { r with
          byteCount := 2, length := wordOf b 0, crcIn := crcByte r.crcIn b, crcOut := crcByte r.crcOut b } }
  else if n = 2 then
    let length := wordOf (highByte r.length) b
    send (.char b)
      { s with ring := { r with
          byteCount := 3, length := length, plan := planAfterLength r.kind length
          crcIn := crcByte r.crcIn b, crcOut := crcByte r.crcOut b } }
  else if n < 3 + len then
    let sent := bodyByteOut s (n - 3) b
    send (.char sent)
      { s with ring := { r with
          byteCount := n + 1, body := r.body ++ [b], plan := planAfterBody s (n - 3) b
          crcIn := crcByte r.crcIn b, crcOut := crcByte r.crcOut sent } }
  else if n = 3 + len then
    send (.char (crcByteOut r.plan b (highByte r.crcIn) (highByte r.crcOut)))
      { s with ring := { r with byteCount := n + 1, crcHigh := b } }
  else if n = 4 + len then
    let counted := send (.char (crcByteOut r.plan b (lowByte r.crcIn) (lowByte r.crcOut)))
      { s with ring := { r with byteCount := n + 1 } }
    if len ≤ 256 then frameEnd b counted else counted
  else send (.char b) { s with ring := { r with byteCount := n + 1 } }

/-- A character is received with its stop bit in mark: passed by the direct path while the bypass is engaged, stray in HUNT,
else a byte of the frame (R176, R180, R188). -/
def receiveChar (s : State) (b : Byte) : State :=
  if ringConnected s then
    let s' := backToMark { s with ring := { s.ring with markSeen := true } }
    match s'.ring.rx with
    | .frame => frameByte b s'
    | _ => send (.char b) s'
  else send (.char b) s

/-- A run of characters is received. -/
def receive (chars : List Byte) (s : State) : State := chars.foldl receiveChar s

/-- The characters of a frame in order: KIND, LENGTH, BODY, CRC (R177). -/
def frameChars (kind : Byte) (length : BitVec 16) (body : List Byte) (crc : BitVec 16) : List Byte :=
  kind :: (wordBytes length ++ body ++ wordBytes crc)

/-- A frame row: its characters arrive on RING IN. -/
def frameRow (kind : Byte) (length : BitVec 16) (body : List Byte) (crc : BitVec 16) (s : State) : State :=
  receive (frameChars kind length body crc) (clearOut s)

/-! ### Line events -/

/-- A run of space of 30 bit times or more is a lead-in: it truncates a frame in progress, and the receiver is in LEAD-IN
(R175, R176, R177). A lead-in that was under way as the bypass disengaged is not counted (R176). -/
def spaceRun (bits : Nat) (nothingBefore : Bool) (s : State) : State :=
  let s' := send (.space bits) s
  if ringConnected s then
    let counted := decide (30 ≤ bits) && (s.ring.markSeen || !nothingBefore)
    let seen := { s' with ring := { s'.ring with markSeen := true } }
    if counted then { seen with ring := { seen.ring with rx := .leadIn } } else seen
  else s'

/-- A run of mark: more than 30 bit times is a frame break, which truncates a frame in progress (R175, R177). -/
def markRun (bits : Nat) (s : State) : State :=
  let s' := send (.mark bits) s
  if ringConnected s then
    let s'' := backToMark { s' with ring := { s'.ring with markSeen := true } }
    if 30 < bits ∧ s''.ring.rx = .frame then { s'' with ring := { s''.ring with rx := .hunt } } else s''
  else s'

/-- A character in framing error: it is no byte of a frame, it truncates a frame in progress, and it is repeated as received
(R175, R177, R181). -/
def badCharacter (b : Byte) (s : State) : State :=
  let s' := send (.badChar b) s
  if ringConnected s then
    let s'' := backToMark { s' with ring := { s'.ring with markSeen := true } }
    { s'' with ring := { s''.ring with rx := .hunt } }
  else s'

/-! ### The bypass and the resets (R188 to R190) -/

/-- At a change of the bypass the switch holds RING OUT in mark for 4 to 10 character times (R189); how long is a free value
(assumption 3). What RING IN brings in that time does not reach RING OUT; on the path that RING OUT has after the change it is
`delay` character times late, so the last of them that the hold covers came in that much before its end. -/
def holdMark (delay : Nat) (s : State) : State :=
  let n := 4 + (Config.switchHoldAbove4 s.freeCount).val
  { s with
    ring := { s.ring with out := s.ring.out ++ [.held n], holdLeft := 10 * (n - delay) }
    freeCount := s.freeCount + 1 }

/-- A tick and a boundary come after any hold of the bypass switch has ended: it lasts at most 10 character times, a tick 50, a
period 500 (R189; that one which falls within a hold is given before or after it is a DESIGN CHOICE, assumption 3). -/
def endHold (s : State) : State := { s with ring := { s.ring with holdLeft := 0 } }

/-- The bypass engages: a change where it was disengaged; the receiver is held in HUNT, and a frame being taken ends with no
frame end (R188, R189). -/
def engage (s : State) : State :=
  let held := if ringConnected s then holdMark 0 s else s
  { held with ring := { held.ring with bypass := .engaged, rx := .hunt } }

/-- Every block at its state after power-on or RESETN, the thermal condition, RING OUT and the bypass switch apart (R18, R40,
R57, R76, R94, R110, R131, R149, R190). -/
def powerOnState (s : State) : State :=
  let s' := resetBlocks s
  { s' with
    tickCount := 0
    command := CommandUnit.reset
    ring := { Ring.reset with
      supplyOk := s.ring.supplyOk, resetnHigh := s.ring.resetnHigh, bypass := s.ring.bypass, out := s.ring.out
      holdLeft := s.ring.holdLeft } }

/-- The sensor starts afresh from the rising thresholds where the node is released from reset (R81). -/
def startSensor (temperature : Int) (s : State) : State :=
  if blocksRun s then { s with output := { s.output with thermal := thermalAtStart temperature } } else s

/-- The bypass disengages at the end of initialisation, the receiver in HUNT with no frame in transit and both running CRCs at
FFFFh; the line must be seen in mark before a lead-in is measured (R176, R188, R190). -/
def disengage (lineInSpace : Bool) (s : State) : State :=
  let held := holdMark 1 s
  { held with ring := { held.ring with
      bypass := .disengaged, markSeen := !lineInSpace, rx := .hunt, byteCount := 0, body := []
      crcIn := 0xFFFF, crcOut := 0xFFFF, plan := .repeated } }

end Sys2Proof.Machine
end

