-- ==== Sys2Proof/Machine/Frames.lean ====
section
/-! DEFINITION. The frame rows and the line-event rows (chapter 10): the ring family. -/

namespace Sys2Proof.Machine

/-- LEVEL_FRAME (R62, R63): the characters of a frame of KIND 1. -/
def execLevelFrame (length : BitVec 16) (body : List Byte) (crc : BitVec 16) (s : State) :
    Host.Outcome State Fault Refusal :=
  .next (frameRow 1 length body crc s)

/-- COMMAND_FRAME (R133 to R141): the characters of a frame of KIND 2. -/
def execCommandFrame (length : BitVec 16) (body : List Byte) (crc : BitVec 16) (s : State) :
    Host.Outcome State Fault Refusal :=
  .next (frameRow 2 length body crc s)

/-- POLL_FRAME (R144, R185): the characters of a frame of KIND 3. -/
def execPollFrame (length : BitVec 16) (body : List Byte) (crc : BitVec 16) (s : State) :
    Host.Outcome State Fault Refusal :=
  .next (frameRow 3 length body crc s)

/-- ENUMERATE_FRAME (R183, R184): the characters of a frame of KIND 4. -/
def execEnumerateFrame (length : BitVec 16) (body : List Byte) (crc : BitVec 16) (s : State) :
    Host.Outcome State Fault Refusal :=
  .next (frameRow 4 length body crc s)

/-- SYNC_FRAME (R127): the characters of a frame of KIND 5. -/
def execSyncFrame (length : BitVec 16) (body : List Byte) (crc : BitVec 16) (s : State) :
    Host.Outcome State Fault Refusal :=
  .next (frameRow 5 length body crc s)

/-- HEALTH_FRAME (R186, R187): the characters of a frame of KIND 6. -/
def execHealthFrame (length : BitVec 16) (body : List Byte) (crc : BitVec 16) (s : State) :
    Host.Outcome State Fault Refusal :=
  .next (frameRow 6 length body crc s)

/-- UNKNOWN_KIND_FRAME (R179, R193): the characters of a frame of any KIND; one that is unknown, over-length or of bad CRC is
forwarded and ignored. -/
def execUnknownKindFrame (kind : Byte) (length : BitVec 16) (body : List Byte) (crc : BitVec 16) (s : State) :
    Host.Outcome State Fault Refusal :=
  .next (frameRow kind length body crc s)

/-- LEAD_IN (R175, R176, R177): the characters before it, then a run of space. -/
def execLeadIn (chars : List Byte) (spaceBits : Nat) (s : State) : Host.Outcome State Fault Refusal :=
  .next (spaceRun spaceBits chars.isEmpty (receive chars (clearOut s)))

/-- FRAME_BREAK (R175, R177): the characters before it, then a run of mark. -/
def execFrameBreak (chars : List Byte) (markBits : Nat) (s : State) : Host.Outcome State Fault Refusal :=
  .next (markRun markBits (receive chars (clearOut s)))

/-- FRAMING_ERROR (R175, R177): the characters before it, then the character in error. -/
def execFramingError (chars : List Byte) (bad : Byte) (s : State) : Host.Outcome State Fault Refusal :=
  .next (badCharacter bad (receive chars (clearOut s)))

end Sys2Proof.Machine
end

