-- ==== Sys2Proof/Machine/Supply.lean ====
section
/-! DEFINITION. The rows of the supply, the reset line, initialisation and the temperature sensor (R81, R82, R188 to R190). -/

namespace Sys2Proof.Machine

/-- THERMAL_CONDITION_CHANGE (R81, R82): the sensor moves the condition one step at a die temperature; the sensor reports while
the blocks run (R188). -/
def execThermalConditionChange (temperature : Int) (s : State) : Host.Outcome State Fault Refusal :=
  let new := thermalNext s.output.thermal temperature
  .next (if blocksRun s && new != s.output.thermal then changeThermal new s else s)

/-- POWER_ON (R188, R190): the supply is above the operating threshold, every block is in its reset state with the bypass
engaged, and unless RESETN is low initialisation starts, the sensor afresh (R81). -/
def execPowerOn (temperature : Int) (s : State) : Host.Outcome State Fault Refusal :=
  let up := engage (clearOut s)
  .next (startSensor temperature (powerOnState { up with ring := { up.ring with supplyOk := true } }))

/-- POWER_FAIL (R188, R189, R191): the supply is below the operating threshold; the bypass engages, the frame in transit is
cut, and the node is held in reset. -/
def execPowerFail (chars : List Byte) (s : State) : Host.Outcome State Fault Refusal :=
  let down := engage (receive chars (clearOut s))
  .next (powerOnState { down with ring := { down.ring with supplyOk := false } })

/-- RESETN_ASSERT (R188, R189): RESETN goes low; the bypass engages, the frame in transit is cut, and the node is reset. -/
def execResetnAssert (chars : List Byte) (s : State) : Host.Outcome State Fault Refusal :=
  let low := engage (receive chars (clearOut s))
  .next (powerOnState { low with ring := { low.ring with resetnHigh := false } })

/-- RESETN_RELEASE (R188): RESETN is high; unless the supply is low initialisation starts with the bypass engaged, the sensor
afresh (R81). -/
def execResetnRelease (temperature : Int) (s : State) : Host.Outcome State Fault Refusal :=
  let high := engage (clearOut s)
  .next (startSensor temperature (powerOnState { high with ring := { high.ring with resetnHigh := true } }))

/-- INITIALISATION_END (R188 to R190): the bypass disengages and the receiver starts in HUNT. A node that is not initialising
goes on as it is (assumption 12). -/
def execInitialisationEnd (chars : List Byte) (lineInSpace : Bool) (s : State) : Host.Outcome State Fault Refusal :=
  let s' := receive chars (clearOut s)
  .next (if blocksRun s && !ringConnected s then disengage lineInSpace s' else s')

end Sys2Proof.Machine
end

