-- ==== Sys2Proof/Machine/Timed.lean ====
section
/-! DEFINITION. The timed rows: the tick and the output period boundary, each whole, and the rows of the sub-steps that fall
within them (assumption 4). While the blocks are held in reset nothing is counted (R61, R188); a hold of the bypass switch
ends with the time that passes all the same. -/

namespace Sys2Proof.Machine

/-- A tick, whole: the counters, then the examination of every stream for expiry, in the order given and then ascending (R61,
R66, assumption 7). A stream whose explicit timeout is 1 tick is lost at every tick, one that falls together with its arrival
and is taken after it too: R65 and R66 say so, and R67 says that no loss occurs (DESIGN CHOICE, assumption 24). -/
def takeTick (order : List StreamId) (s : State) : State :=
  (order ++ List.finRange 16).foldl (fun t i => examineExpiry i t) (countTicks { s with tickCount := s.tickCount + 1 })

/-- TICK (R61, R66). -/
def execTick (order : List StreamId) (s : State) : Host.Outcome State Fault Refusal :=
  .next (if blocksRun s then takeTick order (endHold s) else endHold s)

/-- STREAM_EXPIRY (R66): the examination of one stream; a stream that is not due stays as it is. -/
def execStreamExpiry (stream : StreamId) (s : State) : Host.Outcome State Fault Refusal :=
  .next (examineExpiry stream s)

/-- The audit unit's part of a boundary: the period is counted, and a dwell that has ended is closed, the queue draining where
the audit has completed (R100, R101, R140). -/
def auditBoundary (s : State) : State := dwellEnd (countPeriod s)

/-- An output period boundary, whole: the period reports (R87), the fault monitor (R88), the ramp step (R48 to R50) and the
audit (R100), then the output levels and phase groups of the period that begins (R85, R92). Where the audit completes, the
order given says whether the drained commands come before the ramp step, before the forming or after it, so that a drained
COMMIT NOW has its new phase groups in the period that begins or in the one after it (R92, assumption 9). -/
def takeBoundary (peaks : Tab 24 Nat) (order : BoundaryOrder) (s : State) : State :=
  let judged := stepMonitors (formReports peaks s)
  match order with
  | .auditFirst => beginPeriod (stepRamps (auditBoundary judged))
  | .rampsFirst => beginPeriod (auditBoundary (stepRamps judged))
  | .drainLast => drainIfEnded judged (beginPeriod (closeDwell (countPeriod (stepRamps judged))))

/-- OUTPUT_PERIOD_BOUNDARY (R85). -/
def execOutputPeriodBoundary (peaks : Tab 24 Nat) (order : BoundaryOrder) (s : State) : Host.Outcome State Fault Refusal :=
  .next (if blocksRun s then takeBoundary peaks order (endHold s) else endHold s)

/-- RAMP_DELAY_EXPIRY (R48): a WAITING channel whose delay remaining is 0 becomes MOVING. -/
def execRampDelayExpiry (channel : Channel) (s : State) : Host.Outcome State Fault Refusal :=
  .next { s with ramps := s.ramps.put channel (delayExpiry (s.ramps.get channel)) }

/-- FAULT_LATCH_SET (R88, R89): a confirm count that has reached 3 returns to 0 and sets the latch; the output level follows
the fault action at once. -/
def execFaultLatchSet (channel : Channel) (s : State) : Host.Outcome State Fault Refusal :=
  .next (formOutputs { s with output := { s.output with
    monitors := s.output.monitors.put channel (settleLatch (s.output.monitors.get channel)) } })

/-- AUDIT_DWELL_END (R100): where the periods counted have reached the dwell, the channel under test is classified and the
next channel is taken. -/
def execAuditDwellEnd (s : State) : Host.Outcome State Fault Refusal := .next (dwellEnd s)

/-- AUDIT_COMPLETE (R101): an audit with no channel left completes, and the queue drains. -/
def execAuditComplete (s : State) : Host.Outcome State Fault Refusal := .next (completeAudit s)

end Sys2Proof.Machine
end

