-- ==== Sys2Proof/Machine/Dispatch.lean ====
section
/-! DEFINITION. Dispatch: one arm per row of spec/opcode_table.json, each one direct call of that row's meaning. -/

namespace Sys2Proof.Machine

def exec (i : Instr) (s : State) : Host.Outcome State Fault Refusal :=
  match i with
  | .levelFrame length body crc => Sys2Proof.Machine.execLevelFrame length body crc s
  | .commandFrame length body crc => Sys2Proof.Machine.execCommandFrame length body crc s
  | .pollFrame length body crc => Sys2Proof.Machine.execPollFrame length body crc s
  | .enumerateFrame length body crc => Sys2Proof.Machine.execEnumerateFrame length body crc s
  | .syncFrame length body crc => Sys2Proof.Machine.execSyncFrame length body crc s
  | .healthFrame length body crc => Sys2Proof.Machine.execHealthFrame length body crc s
  | .unknownKindFrame kind length body crc => Sys2Proof.Machine.execUnknownKindFrame kind length body crc s
  | .leadIn chars spaceBits => Sys2Proof.Machine.execLeadIn chars spaceBits s
  | .frameBreak chars markBits => Sys2Proof.Machine.execFrameBreak chars markBits s
  | .framingError chars bad => Sys2Proof.Machine.execFramingError chars bad s
  | .tick order => Sys2Proof.Machine.execTick order s
  | .streamExpiry stream => Sys2Proof.Machine.execStreamExpiry stream s
  | .outputPeriodBoundary peaks order => Sys2Proof.Machine.execOutputPeriodBoundary peaks order s
  | .rampDelayExpiry channel => Sys2Proof.Machine.execRampDelayExpiry channel s
  | .faultLatchSet channel => Sys2Proof.Machine.execFaultLatchSet channel s
  | .auditDwellEnd => Sys2Proof.Machine.execAuditDwellEnd s
  | .auditComplete => Sys2Proof.Machine.execAuditComplete s
  | .thermalConditionChange temperature => Sys2Proof.Machine.execThermalConditionChange temperature s
  | .powerOn temperature => Sys2Proof.Machine.execPowerOn temperature s
  | .powerFail chars => Sys2Proof.Machine.execPowerFail chars s
  | .resetnAssert chars => Sys2Proof.Machine.execResetnAssert chars s
  | .resetnRelease temperature => Sys2Proof.Machine.execResetnRelease temperature s
  | .initialisationEnd chars lineInSpace => Sys2Proof.Machine.execInitialisationEnd chars lineInSpace s
  | .setGroups seq params => Sys2Proof.Machine.execSetGroups seq params s
  | .writePatch seq params => Sys2Proof.Machine.execWritePatch seq params s
  | .writeChannel seq params => Sys2Proof.Machine.execWriteChannel seq params s
  | .writeProfile seq params => Sys2Proof.Machine.execWriteProfile seq params s
  | .writeCurve seq params => Sys2Proof.Machine.execWriteCurve seq params s
  | .writeScene seq params => Sys2Proof.Machine.execWriteScene seq params s
  | .copyActive seq params => Sys2Proof.Machine.execCopyActive seq params s
  | .arm seq params => Sys2Proof.Machine.execArm seq params s
  | .disarm seq params => Sys2Proof.Machine.execDisarm seq params s
  | .commitNow seq params => Sys2Proof.Machine.execCommitNow seq params s
  | .setStream seq params => Sys2Proof.Machine.execSetStream seq params s
  | .recallScene seq params => Sys2Proof.Machine.execRecallScene seq params s
  | .release seq params => Sys2Proof.Machine.execRelease seq params s
  | .outputsOn seq params => Sys2Proof.Machine.execOutputsOn seq params s
  | .outputsOff seq params => Sys2Proof.Machine.execOutputsOff seq params s
  | .clearFaults seq params => Sys2Proof.Machine.execClearFaults seq params s
  | .startAudit seq params => Sys2Proof.Machine.execStartAudit seq params s
  | .abortAudit seq params => Sys2Proof.Machine.execAbortAudit seq params s
  | .setCeiling seq params => Sys2Proof.Machine.execSetCeiling seq params s
  | .read seq params => Sys2Proof.Machine.execRead seq params s
  | .nodeReset seq params => Sys2Proof.Machine.execNodeReset seq params s

end Sys2Proof.Machine
end

