-- ==== Sys2Proof/WellFormed.lean ====
section
/-! DEFINITION. When a command is one that the ring, the clock or the command unit can bring. An ill-formed command has its
meaning all the same: the receiver and the command unit judge what arrives. -/

namespace Sys2Proof

/-- A frame row brings a whole frame: as many body bytes as LENGTH counts (R177). -/
def wholeBody (length : BitVec 16) (body : List Byte) : Bool := body.length == length.toNat

/-- A command carries at most 64 parameter bytes (R133). -/
def paramsFit (params : List Byte) : Bool := decide (params.length ≤ 64)

/-- A lead-in is a run of space of 30 bit times or more (R175). -/
def leadInLong (bits : Nat) : Bool := decide (30 ≤ bits)

/-- A frame break is a run of mark of more than 30 bit times (R175). -/
def breakLong (bits : Nat) : Bool := decide (30 < bits)

/-- Whether a command is one the ring, the clock or the command unit can bring. An UNKNOWN_KIND_FRAME row may carry any KIND,
since a bad CRC alone is a reason to ignore a frame (R179). -/
def Instr.wellFormed : Instr → Bool
  | .levelFrame length body _ => wholeBody length body
  | .commandFrame length body _ => wholeBody length body
  | .pollFrame length body _ => wholeBody length body
  | .enumerateFrame length body _ => wholeBody length body
  | .syncFrame length body _ => wholeBody length body
  | .healthFrame length body _ => wholeBody length body
  | .unknownKindFrame _ length body _ => wholeBody length body
  | .leadIn _ bits => leadInLong bits
  | .frameBreak _ bits => breakLong bits
  | .framingError _ _ => true
  | .tick _ => true
  | .streamExpiry _ => true
  | .outputPeriodBoundary _ _ => true
  | .rampDelayExpiry _ => true
  | .faultLatchSet _ => true
  | .auditDwellEnd => true
  | .auditComplete => true
  | .thermalConditionChange _ => true
  | .powerOn _ => true
  | .powerFail _ => true
  | .resetnAssert _ => true
  | .resetnRelease _ => true
  | .initialisationEnd _ _ => true
  | .setGroups _ params => paramsFit params
  | .writePatch _ params => paramsFit params
  | .writeChannel _ params => paramsFit params
  | .writeProfile _ params => paramsFit params
  | .writeCurve _ params => paramsFit params
  | .writeScene _ params => paramsFit params
  | .copyActive _ params => paramsFit params
  | .arm _ params => paramsFit params
  | .disarm _ params => paramsFit params
  | .commitNow _ params => paramsFit params
  | .setStream _ params => paramsFit params
  | .recallScene _ params => paramsFit params
  | .release _ params => paramsFit params
  | .outputsOn _ params => paramsFit params
  | .outputsOff _ params => paramsFit params
  | .clearFaults _ params => paramsFit params
  | .startAudit _ params => paramsFit params
  | .abortAudit _ params => paramsFit params
  | .setCeiling _ params => paramsFit params
  | .read _ params => paramsFit params
  | .nodeReset _ params => paramsFit params

end Sys2Proof
end

