-- ==== Sys2Proof/Safety.lean ====
section
/-! DEFINITION. The terms in which claims about the node are stated: what must hold of every state between two events (the
invariants that the rules give), how two states compare, and the frames of the ring. Nothing here is part of a step. -/

namespace Sys2Proof.Machine

/-! ### What holds between events -/

/-- R84, case by case: the output level of a channel, from the switch, the thermal condition, the latch and fault action, the
audit, the ramp level and the effective ceiling. -/
def ruledLevel (s : State) (c : Channel) : Level :=
  if s.output.switchOn = false then 0
  else if s.output.thermal = .hot then 0
  else if (s.output.monitors.get c).latch ≠ none ∧ (s.active.config.get c).faultAction = .forceOff then 0
  else
    let ceiling : Level := if s.output.thermal = .warm then s.output.ceiling else 65535
    let shown : Level :=
      match s.audit.run with
      | some run => if run.under = some c then run.testLevel else (s.ramps.get c).level
      | none => (s.ramps.get c).level
    if shown ≤ ceiling then shown else ceiling

/-- At every instant each channel's output level is the one R84 gives (R85). -/
def OutputsOk (s : State) : Prop := ∀ c, s.output.levels.get c = ruledLevel s c

/-- The ramp records (R44): STEADY exactly where the level equals the target; delay remaining above 0 in WAITING and 0 in
STEADY and MOVING, and never above 255. -/
def RampsOk (s : State) : Prop :=
  ∀ c, let r := s.ramps.get c
    (r.state = .steady ↔ r.level = s.target.targets.get c) ∧ (r.state = .waiting → 0 < r.delay)
      ∧ (r.state ≠ .waiting → r.delay = 0) ∧ r.delay ≤ 255

/-- The stream records (R59, R60, R61): counts stand at 0 in DISABLED and SILENT; a LIVE stream's count is below its effective
timeout; an explicit timeout is at least 1; the measured period fits its field. -/
def StreamsOk (s : State) : Prop :=
  ∀ i, let r := s.streams.get i
    (r.state = .disabled ∨ r.state = .silent → r.measured = 0 ∧ r.ticks = 0)
      ∧ (r.state = .live → r.ticks < effectiveTimeout r)
      ∧ r.timeout ≠ .ticks 0 ∧ r.measured ≤ 65535 ∧ r.ticks ≤ 65535

/-- The contributions (R7, R8, R15, R20): absent ones hold 0 and 0; a present one has an active entry whose stream is LIVE or
LOST, and its curved value is its raw value through that entry's curve in the active set. -/
def ContributionsOk (s : State) : Prop :=
  ∀ k, let x := s.patch.contributions.get k
    (x.present = false → x.raw = 0 ∧ x.curved = 0)
      ∧ (x.present = true → ∃ e, s.active.patch.get k = some e
          ∧ ((s.streams.get e.stream).state = .live ∨ (s.streams.get e.stream).state = .lost)
          ∧ x.curved = curvedValue s.active e.curve x.raw)

/-- The overrides (R23): origin LOSS(i) only while stream i is LOST under policy SCENE, and then without a profile. -/
def OverridesOk (s : State) : Prop :=
  ∀ c o i, s.target.overrides.get c = some o → o.origin = .loss i →
    (s.streams.get i).state = .lost ∧ (∃ n, (s.streams.get i).policy = .scene n) ∧ o.profile = none

/-- Each target is the one R22 gives: the override's level, else the merge result, else the rest level (R36). -/
def TargetsOk (s : State) : Prop := ∀ c, s.target.targets.get c = targetOf s c

/-- Every curve, profile and scene that a table set's patch and configurations, the standing COMMAND overrides and the stream
loss policies name is defined in the table set (R122, R128). -/
def RefsDefined (t : TableSet) (o : Tab 24 (Option Override)) (r : Tab 16 StreamRecord) : Prop :=
  (∀ k e, t.patch.get k = some e → curveDefined t e.curve = true)
    ∧ (∀ c, (profileOf t (t.config.get c).profile).isSome = true)
    ∧ (∀ c x p, o.get c = some x → x.origin = .command → x.profile = some p → (profileOf t p).isSome = true)
    ∧ (∀ i n, (r.get i).policy = .scene n → (t.scenes.get n).isSome = true)

/-- The table sets (R113, R114, R128): every reference of the level path is defined in the active set; in CLEAN the staged set
equals the active set; in ARMED the staged set would pass validation. -/
def StagingOk (s : State) : Prop :=
  RefsDefined s.active s.target.overrides s.streams
    ∧ (s.staging.state = .clean → s.staging.staged = s.active)
    ∧ (∀ e, s.staging.state = .armed e → RefsDefined s.staging.staged s.target.overrides s.streams)

/-- A defined fade profile (R42, R43): 1 to 4 segments, bounds strictly increasing from above 0 to 65536, steps above 0. -/
def ProfileOk (p : Profile) : Prop :=
  1 ≤ p.segments.length ∧ p.segments.length ≤ 4
    ∧ (p.segments.map Segment.bound).Pairwise (· < ·)
    ∧ (∀ g ∈ p.segments, 0 < g.bound ∧ g.rise ≠ 0 ∧ g.fall ≠ 0)
    ∧ (p.segments.getLast?.map Segment.bound) = some 65536

/-- A table set whose items keep their form: the two slots of a 16-bit entry differ (R2), profiles are well formed (R43), a
defined scene names at least one channel (R25). -/
def TableSetOk (t : TableSet) : Prop :=
  (∀ k e, t.patch.get k = some e → e.fine ≠ some e.coarse)
    ∧ (∀ n p, t.profiles.get n = some p → ProfileOk p)
    ∧ (∀ n x, t.scenes.get n = some x → ∃ c, (x.get c).isSome = true)

/-- Both table sets keep their form. -/
def TablesOk (s : State) : Prop := TableSetOk s.active ∧ TableSetOk s.staging.staged

/-- All records of the three collections, in the order a POLL looks them up (R144). -/
def heldRecords (u : CommandUnit) : List Record := u.running.toList ++ u.queue ++ u.replies

/-- The three collections (R136, R137): capacities 1, 4 and 8; no sequence number twice; each status in its place; records
queue only behind an occupied running slot; data of at most 20 bytes. -/
def WindowOk (s : State) : Prop :=
  s.command.queue.length ≤ 4 ∧ s.command.replies.length ≤ 8
    ∧ ((heldRecords s.command).map Record.seq).Nodup
    ∧ (∀ r, s.command.running = some r → r.status = .running)
    ∧ (∀ r ∈ s.command.queue, r.status = .queued)
    ∧ (∀ r ∈ s.command.replies, (r.status = .done ∨ r.status = .refused) ∧ r.data.length ≤ 20)
    ∧ (s.command.queue ≠ [] → s.command.running.isSome = true)

/-- The audit (R96, R137): the running slot is occupied exactly while RUNNING; while RUNNING the outputs are ON, the condition
is not HOT, a channel of the mask is under test, and the periods counted are below the dwell of 4 to 64. -/
def AuditOk (s : State) : Prop :=
  (s.command.running.isSome = s.audit.run.isSome)
    ∧ ∀ run, s.audit.run = some run →
        s.output.switchOn = true ∧ s.output.thermal ≠ .hot ∧ 4 ≤ run.dwell ∧ run.dwell ≤ 64
          ∧ run.periods < run.dwell ∧ run.testLevel ≠ 0
          ∧ ∃ c, run.under = some c ∧ inMask run.mask c = true

/-- The fault monitor: the confirm count after a boundary is never 3 (R88). -/
def MonitorsOk (s : State) : Prop := ∀ c, (s.output.monitors.get c).count < 3

/-- The ring interface and the group set (R146, R184, R188, R189): the address is 0 or 1 to 250; at most 4 distinct groups, each
1 to 63; the bypass is disengaged only with the supply above its threshold and RESETN high; while it is engaged the receiver is
held in HUNT; the bypass switch holds RING OUT for at most 10 character times, 100 bit times, more. -/
def LinkOk (s : State) : Prop :=
  s.ring.address.toNat ≤ 250
    ∧ s.command.groups.length ≤ 4 ∧ s.command.groups.Nodup
    ∧ (∀ g ∈ s.command.groups, 1 ≤ g.toNat ∧ g.toNat ≤ 63)
    ∧ (s.ring.bypass = .disengaged → s.ring.supplyOk = true ∧ s.ring.resetnHigh = true)
    ∧ (s.ring.bypass = .engaged → s.ring.rx = .hunt) ∧ s.ring.holdLeft ≤ 100

/-! ### How two states compare -/

/-- A reply list with one record added: the oldest removed first where it holds 8 (R137). -/
def appended (l : List Record) (r : Record) : List Record := if l.length < 8 then l ++ [r] else l.tail ++ [r]

/-- The record of a command that ended DONE with result OK (R136, R142). -/
def doneRecord (seq code : Byte) (data : List Byte) : Record :=
  { seq := seq, code := code, status := .done, result := some .ok, data := data, params := [] }

/-- The record of a command that was refused (R136, R142). -/
def refusedRecord (seq code : Byte) (result : ResultCode) (data : List Byte) : Record :=
  { seq := seq, code := code, status := .refused, result := some result, data := data, params := [] }

/-- The command unit with one record added to its reply list, all else kept. -/
def withReply (u : CommandUnit) (r : Record) : CommandUnit := { u with replies := appended u.replies r }

/-- The sequence number is free (R135). -/
def SeqFree (u : CommandUnit) (seq : Byte) : Prop := ∀ r ∈ heldRecords u, r.seq ≠ seq

/-- A command arriving now executes on acceptance: the node hears the ring, nothing is running, and the sequence number is
free (R135, R139, R188). -/
def Ready (s : State) (seq : Byte) : Prop :=
  ringConnected s = true ∧ s.command.running = none ∧ SeqFree s.command seq

/-- The output levels of `t` were formed at once within the running period: each is the one of R84, and the period's driven
and under-test marks follow (R85, R87, R88). -/
def FormedAtOnce (s t : State) : Prop :=
  ∀ c, t.output.levels.get c = ruledLevel t c
    ∧ t.output.driven.get c = (s.output.driven.get c && ruledLevel t c != 0)
    ∧ t.output.tested.get c = (s.output.tested.get c || t.audit.run.bind AuditRun.under == some c)

/-- A ramp record takes a target change, `delay` being the delay of the profile in effect after the event (R45, R46, R47): the
level stays; STEADY starts the delay, or MOVING where it is 0; WAITING keeps its count and MOVING goes on, but for a target
that equals the level, which makes both STEADY. -/
def TargetTaken (delay : Nat) (target : Level) (old new : Ramp) : Prop :=
  new.level = old.level
    ∧ (old.state = .steady → (0 < delay → new.state = .waiting ∧ new.delay = delay)
        ∧ (delay = 0 → new.state = .moving ∧ new.delay = 0))
    ∧ (old.state = .waiting → (target = old.level → new.state = .steady ∧ new.delay = 0)
        ∧ (target ≠ old.level → new.state = .waiting ∧ new.delay = old.delay))
    ∧ (old.state = .moving → (target = old.level → new.state = .steady ∧ new.delay = 0)
        ∧ (target ≠ old.level → new.state = .moving ∧ new.delay = old.delay))

/-- Going from `s` to `t`, exactly the channels chosen had their targets recomputed, each change handed to the ramp engine once
(R36, R45 to R47). -/
def Recomputed (chosen : Channel → Prop) (s t : State) : Prop :=
  ∀ c,
    (chosen c → t.target.targets.get c = targetOf t c) ∧ (¬ chosen c → t.target.targets.get c = s.target.targets.get c)
      ∧ (t.target.targets.get c = s.target.targets.get c → t.ramps.get c = s.ramps.get c)
      ∧ (t.target.targets.get c ≠ s.target.targets.get c →
          TargetTaken (profileFor t c).delay.toNat (t.target.targets.get c) (s.ramps.get c) (t.ramps.get c))

/-! ### The frames of the ring -/

/-- The CRC of a frame (R178). -/
def goodCrc (kind : Byte) (length : BitVec 16) (body : List Byte) : BitVec 16 :=
  crcOf (kind :: (wordBytes length ++ body))

/-- A frame is about to be taken: the node hears the ring, and a lead-in has been seen (R176, R188). -/
def AwaitsFrame (s : State) : Prop := ringConnected s = true ∧ s.ring.rx = .leadIn

/-- A whole frame: LENGTH at most 256, and so many body bytes (R177). -/
def Whole (length : BitVec 16) (body : List Byte) : Prop := length.toNat ≤ 256 ∧ body.length = length.toNat

/-- The frame that a frame row brings: KIND, LENGTH, BODY, CRC. -/
def frameOf : Instr → Option (Byte × BitVec 16 × List Byte × BitVec 16)
  | .levelFrame l b c => some (1, l, b, c)
  | .commandFrame l b c => some (2, l, b, c)
  | .pollFrame l b c => some (3, l, b, c)
  | .enumerateFrame l b c => some (4, l, b, c)
  | .syncFrame l b c => some (5, l, b, c)
  | .healthFrame l b c => some (6, l, b, c)
  | .unknownKindFrame k l b c => some (k, l, b, c)
  | _ => none

/-- The command row of a command code (section 9.1). -/
def commandOf (code seq : Byte) (params : List Byte) : Option Instr :=
  if code = 1 then some (.setGroups seq params)
  else if code = 2 then some (.writePatch seq params)
  else if code = 3 then some (.writeChannel seq params)
  else if code = 4 then some (.writeProfile seq params)
  else if code = 5 then some (.writeCurve seq params)
  else if code = 6 then some (.writeScene seq params)
  else if code = 7 then some (.copyActive seq params)
  else if code = 8 then some (.arm seq params)
  else if code = 9 then some (.disarm seq params)
  else if code = 10 then some (.commitNow seq params)
  else if code = 11 then some (.setStream seq params)
  else if code = 12 then some (.recallScene seq params)
  else if code = 13 then some (.release seq params)
  else if code = 14 then some (.outputsOn seq params)
  else if code = 15 then some (.outputsOff seq params)
  else if code = 16 then some (.clearFaults seq params)
  else if code = 17 then some (.startAudit seq params)
  else if code = 18 then some (.abortAudit seq params)
  else if code = 19 then some (.setCeiling seq params)
  else if code = 20 then some (.read seq params)
  else if code = 21 then some (.nodeReset seq params)
  else none

/-- How many bit times a stretch of line takes (R175). -/
def lineBits : List LineSym → Nat
  | [] => 0
  | x :: l =>
    (match x with
      | .char _ => 10
      | .badChar _ => 10
      | .space n => n
      | .mark n => n
      | .held n => 10 * n
      | .cut n _ _ => n) + lineBits l

/-- What is left of one stretch of line whose first `h` bit times stand in mark, fewer than it has (R189). -/
def lastBits (h : Nat) : LineSym → LineSym
  | .char b => .cut (10 - h) b true
  | .badChar b => .cut (10 - h) b false
  | .space n => .space (n - h)
  | .mark n => .mark (n - h)
  | .held n => .held n
  | .cut n b q => .cut (n - h) b q

/-- What RING OUT sends of the stretches that the node would send, where the bypass switch holds it in mark for their first `h`
bit times (R189): all of it where the hold is over, nothing of a stretch within the hold, and the rest of the one in which it
ends. -/
def masked : Nat → List LineSym → List LineSym
  | _, [] => []
  | h, x :: l =>
    if h = 0 then x :: l
    else if lineBits [x] ≤ h then masked (h - lineBits [x]) l
    else lastBits h x :: l

/-- The bytes that RING OUT sent as whole characters. -/
def sentBytes (out : List LineSym) : List Byte :=
  out.filterMap fun x => match x with | .char b => some b | _ => none

/-- Going from `s` to `t` only the frame in transit changed: every block but the ring interface is as it was, and so are the
node address, the supply, RESETN and the bypass. -/
def OnlyTransit (s t : State) : Prop :=
  t = { s with ring := t.ring } ∧ t.ring.address = s.ring.address ∧ t.ring.supplyOk = s.ring.supplyOk
    ∧ t.ring.resetnHigh = s.ring.resetnHigh ∧ t.ring.bypass = s.ring.bypass

/-! ### What an event does, for statements that several rows share -/

/-- Loss scene application at one channel (R30): under SCENE n a channel without an override that has an entry naming the
stream and is named by the scene is given a LOSS override. -/
def lossApplied (s : State) (i : StreamId) (p : LossPolicy) (o : Option Override) (c : Channel) : Option Override :=
  match o, p with
  | some x, _ => some x
  | none, .scene n =>
    if patchedTo s.active c i then
      (sceneLevel s.active n c).map fun l => { origin := .loss i, level := l, profile := none }
    else none
  | none, _ => none

/-- The contribution at a key after a commit (R14, R15), from the entries before and after it. -/
def commitContribution (before after : TableSet) (k : Key) (x : Contribution) : Contribution :=
  match before.patch.get k, after.patch.get k with
  | some e, some e' =>
    if e ≠ e' then { present := false, raw := 0, curved := 0 }
    else if x.present = true ∧ curveOf before e.curve ≠ curveOf after e.curve then
      { x with curved := curvedValue after e.curve x.raw }
    else x
  | _, _ => { present := false, raw := 0, curved := 0 }

/-- From `s` to `t` a commit was made (R128), the command unit and the ring interface apart. -/
def Committed (s t : State) : Prop :=
  t.active = s.staging.staged ∧ t.staging.staged = s.staging.staged ∧ t.staging.state = .clean
    ∧ (∀ k, t.patch.contributions.get k
        = commitContribution s.active s.staging.staged k (s.patch.contributions.get k))
    ∧ t.patch.lastUpdated = s.patch.lastUpdated
    ∧ t.target.overrides = s.target.overrides
    ∧ Recomputed (fun _ => True) s t
    ∧ FormedAtOnce s t
    ∧ t.output = { s.output with levels := t.output.levels, driven := t.output.driven, tested := t.output.tested }
    ∧ t = { s with
        ring := t.ring, active := t.active, staging := t.staging, patch := t.patch, target := t.target, ramps := t.ramps
        output := t.output, command := t.command }

/-- A channel latched under FORCE_OFF, which an audit skips (R99). -/
def Skips (s : State) (c : Channel) : Prop :=
  (s.output.monitors.get c).latch ≠ none ∧ (s.active.config.get c).faultAction = .forceOff

/-- The next channel of a mask that an audit tests, from the channels that satisfy `above` (R99). -/
def NextTested (s : State) (mask : Mask) (above : Channel → Prop) (d : Channel) : Prop :=
  inMask mask d = true ∧ above d ∧ ¬ Skips s d ∧ ∀ e, above e → e < d → inMask mask e = true → Skips s e

/-- The tallies after so many more channels were skipped (R99). -/
def skippedMore (t : Tallies) (n : Nat) : Tallies := { t with skipped := t.skipped + n }

/-- The entry that the period report of a boundary gives the channel under test (R100). -/
def verdictOf (report : PeriodReport) : AuditResult :=
  if report.driven = false then .skipped
  else match report.sense with | none => .pass | some .openLoad => .openLoad | some .shortLoad => .shortLoad

/-- The tallies after a channel was classified and so many more were skipped (R99, R100): the tally of the entry is one more. -/
def tallied (t : Tallies) (verdict : AuditResult) (skips : Nat) : Tallies where
  pass := t.pass + if verdict = .pass then 1 else 0
  openLoad := t.openLoad + if verdict = .openLoad then 1 else 0
  shortLoad := t.shortLoad + if verdict = .shortLoad then 1 else 0
  skipped := t.skipped + (if verdict = .skipped then 1 else 0) + skips

/-- The record of an audit that has ended: the START AUDIT's, DONE, with the four tallies as data (R101, R103, R164). -/
def auditRecord (r : Record) (result : ResultCode) (t : Tallies) : Record :=
  { seq := r.seq, code := r.code, status := .done, result := some result
    data := [byteOf t.pass, byteOf t.openLoad, byteOf t.shortLoad, byteOf t.skipped], params := [] }

/-- From `s` to `u` the dwell of channel `c` under test was closed (R99, R100, R101): `c` is classified from its period report and
the channels of the mask above it that are latched under FORCE_OFF are skipped, up to the next channel, which is under test; where
there is none the audit is over and the record of its START AUDIT is DONE, the queue not drained yet. The output levels are formed
at once. -/
def DwellClosed (s : State) (run : AuditRun) (c : Channel) (u : State) : Prop :=
  let verdict := verdictOf (s.output.reports.get c)
  (∀ d, NextTested s run.mask (fun e => c < e) d →
      let between := fun e : Channel => decide (c < e) && decide (e < d) && inMask run.mask e
      u.audit.run = some { run with
          under := some d, periods := 0, tallies := tallied run.tallies verdict (countChannels between) }
        ∧ (∀ e, u.audit.results.get e =
            if e = c then verdict else if between e = true then .skipped else s.audit.results.get e)
        ∧ u.command = s.command)
    ∧ ((∀ e, c < e → inMask run.mask e = true → Skips s e) →
      let above := fun e : Channel => decide (c < e) && inMask run.mask e
      u.audit.run = none
        ∧ (∀ e, u.audit.results.get e =
            if e = c then verdict else if above e = true then .skipped else s.audit.results.get e)
        ∧ ∀ r, s.command.running = some r → u.command =
            { withReply s.command (auditRecord r .ok (tallied run.tallies verdict (countChannels above))) with
              running := none })
    ∧ FormedAtOnce s u
    ∧ u = { s with
        audit := u.audit, command := u.command
        output := { s.output with levels := u.output.levels, driven := u.output.driven, tested := u.output.tested } }

/-! ### The parts of an output period boundary -/

/-- The dwell of the channel under test does not end at a boundary taken now (R100). -/
def DwellGoesOn (s : State) : Prop :=
  ∀ run c, s.audit.run = some run → run.under = some c → run.periods + 1 < run.dwell

/-- The period reports and the fault monitor records of `t` are those of a boundary taken in `s` (R87, R88, R191). -/
def Judged (s : State) (peaks : Tab 24 Nat) (t : State) : Prop :=
  ∀ c,
    let driven := s.output.driven.get c
    let report := t.output.reports.get c
    let old := s.output.monitors.get c
    let new := t.output.monitors.get c
    report.driven = driven
      ∧ (driven = false → report.sense = none)
      ∧ (driven = true → report.sense =
          if 2000 < peaks.get c then some .shortLoad else if peaks.get c < 200 then some .openLoad else none)
      ∧ (driven = false ∨ s.output.tested.get c = true ∨ report.sense = none → new = { old with count := 0 })
      ∧ ∀ k, s.output.tested.get c = false → report.sense = some k →
          let count := if 0 < old.count ∧ old.pending = k then old.count + 1 else 1
          new.pending = k
            ∧ (count < 3 → new.count = count ∧ new.latch = old.latch)
            ∧ (3 ≤ count → new.count = 0
                ∧ new.latch = match old.latch with | some x => some x | none => some k)

/-- The segment of a level: the first, counting from the lowest, whose bound exceeds it (R43). -/
def FirstAbove (segments : List Segment) (level : Level) (g : Segment) : Prop :=
  ∃ below above, segments = below ++ g :: above ∧ (∀ x ∈ below, x.bound ≤ level.toNat) ∧ level.toNat < g.bound

/-- From `s` to `t` every channel took its part of a boundary at the ramp engine, and nothing else changed (R48, R49, R50): a
WAITING channel counts, a MOVING one takes one step of the segment of its level and never passes its target. -/
def RampsStepped (s t : State) : Prop :=
  (∀ c,
    let r := s.ramps.get c
    let goal := (s.target.targets.get c).toNat
    let new := t.ramps.get c
    (r.state = .steady → new = r)
      ∧ (r.state = .waiting → new.level = r.level ∧ new.delay = r.delay - 1
          ∧ new.state = if r.delay - 1 = 0 then .moving else .waiting)
      ∧ ∀ g, r.state = .moving → FirstAbove (profileFor s c).segments r.level g →
          (r.level.toNat < goal → new.delay = r.delay
              ∧ new.level.toNat = min goal (r.level.toNat + g.rise.toNat)
              ∧ new.state = if new.level.toNat = goal then .steady else .moving)
            ∧ (goal < r.level.toNat → new.delay = r.delay
              ∧ new.level.toNat = max goal (r.level.toNat - g.fall.toNat)
              ∧ new.state = if new.level.toNat = goal then .steady else .moving))
    ∧ t = { s with ramps := t.ramps }

/-- The audit counts one period of the channel under test (R100). -/
def periodCounted (s : State) : State :=
  { s with audit := { s.audit with run := s.audit.run.map fun run => { run with periods := run.periods + 1 } } }

/-- From `s` to `t` the period that begins was formed (R84, R85, R86, R92): each output level by its rule, the driven and
under-test marks anew, and the phase groups that the active set configures. -/
def PeriodBegun (s t : State) : Prop :=
  (∀ c, t.output.levels.get c = ruledLevel t c
      ∧ t.output.phases.get c = (t.active.config.get c).phase
      ∧ t.output.driven.get c = (ruledLevel t c != 0)
      ∧ t.output.tested.get c = (t.audit.run.bind AuditRun.under == some c))
    ∧ t = { s with output := { s.output with
        levels := t.output.levels, phases := t.output.phases, driven := t.output.driven, tested := t.output.tested } }

/-- The parameter lengths that a command allows (R151, the summary table of section 9.1). -/
def lengthAllowed (code : Byte) (p : Nat) : Bool :=
  if code = 1 then p ≤ 4
  else if code = 2 then p == 3 || p == 7
  else if code = 4 then p == 2 || p == 8 || p == 14 || p == 20 || p == 26
  else if code = 5 then p == 2 || p == 36
  else if code = 6 then p == 2 || (decide (7 ≤ p ∧ p ≤ 53) && p % 2 == 1)
  else if code = 12 then p == 1 || p == 2 || p == 4 || p == 5
  else if code = 3 then p == 7
  else if code = 8 ∨ code = 19 then p == 2
  else if code = 11 ∨ code = 17 then p == 6
  else if code = 13 ∨ code = 16 then p == 3
  else if code = 20 then p == 4
  else p == 0

/-- The node with every block at its reset state, but for what a reset leaves: the queue of commands, the ring interface, the
free values drawn, and the thermal condition. -/
def blocksReset (s t : State) : Prop :=
  t = { State.reset with
    pending := s.pending, ring := t.ring, freeCount := t.freeCount, output := OutputStage.reset t.output.thermal }

/-- The ring interface after power-on and RESETN: address 0, bypass ENGAGED, HUNT, no plan, both CRCs FFFFh (R188, R190). -/
def linkReset (t : State) : Prop :=
  t.ring.address = 0 ∧ t.ring.bypass = .engaged ∧ t.ring.rx = .hunt ∧ t.ring.plan = .repeated
    ∧ t.ring.crcIn = 0xFFFF ∧ t.ring.crcOut = 0xFFFF

/-! ### Rules spelled out once more, for statements -/

/-- R20: the contribution at a channel's position is usable. -/
def Usable (s : State) (c : Channel) (q : Position) : Prop :=
  (s.patch.contributions.get (keyOf c q)).present = true
    ∧ ∃ e, s.active.patch.get (keyOf c q) = some e
      ∧ ((s.streams.get e.stream).state = .live
        ∨ (s.streams.get e.stream).state = .lost ∧ (s.streams.get e.stream).policy = .hold)

/-- The curved value at a channel's position. -/
def curvedAt (s : State) (c : Channel) (q : Position) : Level := (s.patch.contributions.get (keyOf c q)).curved

/-- A LEVEL frame of stream `i` with so many slots updates an entry (R3). -/
def EntryUpdated (i : StreamId) (slots : Nat) (x : Option PatchEntry) : Prop :=
  ∃ e, x = some e ∧ e.stream = i ∧ e.coarse.val < slots ∧ ∀ f, e.fine = some f → f.val < slots

/-- The code of a merge rule (section 11.4). -/
def mergeRuleNumber : MergeRule → Byte
  | .highest => 0 | .latest => 1 | .aFirst => 2

/-- The code of a fault action (section 11.4). -/
def faultActionNumber : FaultAction → Byte
  | .keep => 0 | .forceOff => 1

/-- The code of a stream state (section 11.5). -/
def streamStateNumber : StreamState → Byte
  | .disabled => 0 | .silent => 1 | .live => 2 | .lost => 3

/-- The code of a ramp state (section 11.5). -/
def rampStateNumber : RampState → Byte
  | .steady => 0 | .waiting => 1 | .moving => 2

/-- The code of a fault latch (section 11.5). -/
def latchNumber : Option FaultKind → Byte
  | none => 0 | some .openLoad => 1 | some .shortLoad => 2

/-- The code of an audit result (section 11.5). -/
def auditResultNumber : AuditResult → Byte
  | .notTested => 0 | .pass => 1 | .openLoad => 2 | .shortLoad => 3 | .skipped => 4 | .aborted => 5

/-- The result code of a record that has ended, 0 before it has (section 11.2). -/
def resultNumber : Option ResultCode → Byte
  | none => 0 | some .ok => 1 | some .aborted => 2 | some .badParam => 3 | some .badState => 4
  | some .undefinedRef => 5 | some .invalidSet => 6 | some .queueFull => 7 | some .unknownCommand => 8

/-- The answer area of a POLL (R144, sections 11.2 and 11.3), by the place in which the record is found. -/
def pollArea (u : CommandUnit) (seq : Byte) : List Byte :=
  let zeros := List.replicate 20 (0 : Byte)
  match u.running.toList.find? (fun r => r.seq == seq), u.queue.find? (fun r => r.seq == seq),
      u.replies.find? (fun r => r.seq == seq) with
  | some r, _, _ => [3, r.code, 0, 0] ++ zeros
  | none, some r, _ => [2, r.code, 0, 0] ++ zeros
  | none, none, some r =>
    [if r.status = .done then 4 else 5, r.code, resultNumber r.result, byteOf r.data.length]
      ++ r.data ++ List.replicate (20 - r.data.length) 0
  | none, none, none => [1, 0, 0, 0] ++ zeros

/-- The characters of a frame on RING OUT. -/
def frameOut (kind : Byte) (length : BitVec 16) (body : List Byte) (crc : BitVec 16) : List LineSym :=
  (kind :: (wordBytes length ++ body ++ wordBytes crc)).map .char

/-- The CRC that carries the error pattern of a frame over to a body sent in place of the body received (R182). -/
def carriedCrc (kind : Byte) (length : BitVec 16) (received sent : List Byte) (crc : BitVec 16) : BitVec 16 :=
  crc ^^^ goodCrc kind length received ^^^ goodCrc kind length sent

/-- The bypass switch changed (R189): after what it had sent, RING OUT is held in mark for 4 to 10 character times, and so much
of what RING IN brings from then on is not sent; `delay` is by how many character times the path after the change is late. -/
def HeldInMark (sent : List LineSym) (delay : Nat) (t : State) : Prop :=
  ∃ n, 4 ≤ n ∧ n ≤ 10 ∧ t.ring.out = sent ++ [.held n] ∧ t.ring.holdLeft = 10 * (n - delay)

/-- The body sent in place of the body `b` of a frame in transit (R181, R183, R185, R186): ENUMERATE, POLL and HEALTH where their
conditions hold, and otherwise the body as received. -/
def bodySent (s : State) (kind : Byte) (length : BitVec 16) (b : List Byte) : List Byte :=
  let m := (b.headD 0).toNat
  let a := s.ring.address.toNat
  if kind = 4 ∧ length = 2 then
    match b with
    | [c, flags] => if c.toNat < 250 then [c + 1, flags] else [c, flags ||| 1]
    | _ => b
  else if kind = 3 ∧ length = 26 ∧ a ≠ 0 ∧ b.head? = some s.ring.address then
    match b with
    | x :: seq :: _ => x :: seq :: pollAnswer s seq
    | _ => b
  else if kind = 6 ∧ 1 ≤ m ∧ m ≤ 250 ∧ length.toNat = 1 + m ∧ 1 ≤ a ∧ a ≤ m then b.set a (healthByte s)
  else b

/-- A frame taken by a node that awaits one is truncated after the characters `chars`, in place of which RING OUT sent the
characters `sent` (R177, R181, R182): a proper beginning of a whole frame, which leaves as the whole frame would, or a
beginning of a frame of LENGTH above 256, however much of it has come, which leaves as received. -/
def CutShort (s : State) (chars sent : List Byte) : Prop :=
  (∃ rest k l b crc, Whole l b ∧ rest ≠ [] ∧ chars ++ rest = k :: (wordBytes l ++ b ++ wordBytes crc)
      ∧ sent = (k :: (wordBytes l ++ bodySent s k l b
          ++ wordBytes (carriedCrc k l b (bodySent s k l b) crc))).take chars.length)
    ∨ (∃ rest k, ∃ l : BitVec 16, ∃ more, 256 < l.toNat ∧ chars ++ rest = k :: (wordBytes l ++ more) ∧ sent = chars)

/-- The reply list with the record of a command done with nothing but its record and its data to show. -/
def repliedDone (s : State) (seq code : Byte) (data : List Byte) : State :=
  { s with command := withReply s.command (doneRecord seq code data) }

/-- The reply list with the record of a command refused. -/
def repliedRefused (s : State) (seq code : Byte) (result : ResultCode) (data : List Byte) : State :=
  { s with command := withReply s.command (refusedRecord seq code result data) }

/-- An urgent command, or a READ of node status, is taken now: the node hears the ring and the sequence number is free (R135,
R138). -/
def Takes (s : State) (seq : Byte) : Prop := ringConnected s = true ∧ SeqFree s.command seq

/-- Staging is ARMED. -/
def Armed (s : State) : Prop := ∃ e, s.staging.state = .armed e

/-- Something is defined in the active set and, while staging is ARMED, in the staged set as well (R26, R68). -/
def DefinedWhereNeeded (s : State) (isDefined : TableSet → Prop) : Prop :=
  isDefined s.active ∧ (Armed s → isDefined s.staging.staged)

/-! ### Parameter blocks, written by the layouts of section 11.4 -/

/-- The mask of a list of channels named. -/
def namedMask (x : Scene) : Mask := maskWhere fun c => (x.get c).isSome

/-- The code of a position (section 11.4). -/
def positionCode : Position → Byte
  | .a => 0 | .b => 1

/-- The position of a key (R1). -/
def keyPosition (k : Key) : Position := if k.val % 2 = 0 then .a else .b

/-- The set field of a READ (section 11.4). -/
def setCode : SetName → Byte
  | .active => 0 | .staged => 1

/-- The command code of a command (section 9.1). -/
def codeOf : Cmd → Byte
  | .setGroups _ => 1 | .writePatch _ _ => 2 | .writeChannel _ _ => 3 | .writeProfile _ _ => 4 | .writeCurve _ _ => 5
  | .writeScene _ _ => 6 | .copyActive => 7 | .arm _ => 8 | .disarm => 9 | .commitNow => 10 | .setStream _ _ _ _ => 11
  | .recallScene _ _ _ => 12 | .release _ => 13 | .outputsOn => 14 | .outputsOff => 15 | .clearFaults _ => 16
  | .startAudit _ _ _ => 17 | .abortAudit => 18 | .setCeiling _ => 19 | .read _ => 20 | .nodeReset => 21

/-- The four fields of a READ (R166). -/
def readParams : ReadItem → List Byte
  | .patchEntry t k => [1, setCode t, byteOf k, 0]
  | .channelConfig t c => [2, setCode t, byteOf c, 0]
  | .profile t p j => [3, setCode t, byteOf p, byteOf j]
  | .curve t c j => [4, setCode t, byteOf c, byteOf j]
  | .scene t n j => [5, setCode t, byteOf n, byteOf j]
  | .channelStatus c => [6, 0, byteOf c, 0]
  | .streamStatus i => [7, 0, byteOf i, 0]
  | .nodeStatus => [8, 0, 0, 0]

/-- The parameter block of a command (section 11.4). -/
def paramsOf : Cmd → List Byte
  | .setGroups l => l
  | .writePatch k none => [byteOf (k.val / 2), positionCode (keyPosition k), 0]
  | .writePatch k (some e) =>
    [byteOf (k.val / 2), positionCode (keyPosition k), 1, byteOf e.stream, byteOf e.coarse,
      (match e.fine with | none => 0xFF | some f => byteOf f), byteOf e.curve]
  | .writeChannel c g =>
    [byteOf c, byteOf g.profile, mergeRuleNumber g.mergeRule] ++ wordBytes g.rest
      ++ [faultActionNumber g.faultAction, byteOf g.phase]
  | .writeProfile n none => [byteOf (n.val + 1), 0]
  | .writeProfile n (some p) =>
    [byteOf (n.val + 1), 1, p.delay, byteOf p.segments.length]
      ++ p.segments.dropLast.flatMap (fun g => wordBytes (BitVec.ofNat 16 g.bound))
      ++ p.segments.flatMap (fun g => wordBytes g.rise ++ wordBytes g.fall)
  | .writeCurve n none => [byteOf (n.val + 1), 0]
  | .writeCurve n (some p) => [byteOf (n.val + 1), 1] ++ (List.finRange 17).flatMap fun i => wordBytes (p.get i)
  | .writeScene n none => [byteOf n, 0]
  | .writeScene n (some x) => [byteOf n, 1] ++ maskBytes (namedMask x) ++ ((List.finRange 24).filterMap x.get).flatMap wordBytes
  | .copyActive => []
  | .arm e => wordBytes e
  | .disarm => []
  | .commitNow => []
  | .setStream i e t p =>
    [byteOf i, if e = true then 1 else 0] ++ wordBytes (match t with | .auto => 0 | .ticks n => n)
      ++ (match p with | .hold => [0, 0] | .release => [1, 0] | .scene n => [2, byteOf n])
  | .recallScene n none none => [byteOf n]
  | .recallScene n none (some p) => [byteOf n, byteOf p]
  | .recallScene n (some m) none => byteOf n :: maskBytes m
  | .recallScene n (some m) (some p) => byteOf n :: (maskBytes m ++ [byteOf p])
  | .release m => maskBytes m
  | .outputsOn => []
  | .outputsOff => []
  | .clearFaults m => maskBytes m
  | .startAudit m l d => maskBytes m ++ wordBytes l ++ [byteOf d]
  | .abortAudit => []
  | .setCeiling l => wordBytes l
  | .read x => readParams x
  | .nodeReset => []

/-- The command's values lie in their ranges (R152 to R164). -/
def CmdOk : Cmd → Prop
  | .setGroups l => l.length ≤ 4 ∧ l.Nodup ∧ ∀ g ∈ l, 1 ≤ g.toNat ∧ g.toNat ≤ 63
  | .writePatch _ (some e) => e.fine ≠ some e.coarse
  | .writeProfile _ (some p) => ProfileOk p
  | .writeScene _ (some x) => ∃ c, (x.get c).isSome = true
  | .setStream _ _ t _ => t ≠ .ticks 0
  | .startAudit m l d => m ≠ 0 ∧ l ≠ 0 ∧ 4 ≤ d ∧ d ≤ 64
  | _ => True

/-- The commands of queued records, sent one after another with nothing between them (R140). A code that names no command has no
row: such a command is refused with UNKNOWN_COMMAND, or waits behind an audit that has begun (R138, R139). -/
def sentInOrder : List Record → State → State
  | [], s => s
  | r :: rest, s =>
    match commandOf r.code r.seq r.params with
    | none =>
      if s.command.running = none then sentInOrder rest (repliedRefused s r.seq r.code .unknownCommand [])
      else sentInOrder rest { s with command := { s.command with queue := s.command.queue ++ [r] } }
    | some c =>
      match exec c s with
      | .next t => sentInOrder rest t
      | .fault _ => s
      | .refused _ => s

/-- The expiries of a list of streams, taken whole one after another (R35, R66). -/
def expiredInOrder : List StreamId → State → State
  | [], s => s
  | i :: rest, s =>
    match exec (.streamExpiry i) s with
    | .next t => expiredInOrder rest t
    | .fault _ => s
    | .refused _ => s

end Sys2Proof.Machine
end

