-- ==== Sys2Proof/Certificates/Slice0/Obligations.lean ====
section
/-! DEFINITION. The statements about the node, for the provers. -/

open Sys2Proof Sys2Proof.Machine

/-! ### The machine -/

/-- A step takes the command at the front of the queue and runs it on the state with the queue's rest; on an empty queue the
node idles (the model's choice, assumption 1). -/
def Obligations.StepTakesFrontCommand : Prop :=
  (∀ c rest s, s.pending = c :: rest → step s = exec c { s with pending := rest })
    ∧ ∀ s, s.pending = [] → step s = .next s

/-- Every command is answered with a next state, and none touches the commands that wait. -/
def Obligations.EveryCommandKeepsQueue : Prop :=
  ∀ c s, ∃ t, exec c s = .next t ∧ t.pending = s.pending

/-- The state after reset meets every invariant. Reset values no rule gives are the model's (assumptions 2 and 13). -/
def Obligations.ResetMeetsInvariants : Prop :=
  OutputsOk State.reset ∧ RampsOk State.reset
    ∧ (StreamsOk State.reset ∧ ContributionsOk State.reset ∧ OverridesOk State.reset ∧ TargetsOk State.reset)
    ∧ StagingOk State.reset ∧ TablesOk State.reset ∧ (WindowOk State.reset ∧ AuditOk State.reset)
    ∧ MonitorsOk State.reset ∧ LinkOk State.reset

/-! ### Invariants that every step keeps -/

/-- R84 and R85: at every instant each output level is the one of the output level rule. -/
def Obligations.OutputLevelsFollowRule : Prop :=
  ∀ s t, OutputsOk s → step s = .next t → OutputsOk t

/-- R44: STEADY is level equal to target; delay remaining above 0 exactly in WAITING, and at most 255. -/
def Obligations.RampRecordsKept : Prop :=
  ∀ s t, RampsOk s → step s = .next t → RampsOk t

/-- R7, R15, R20, R22, R23, R60: stream records, contributions, overrides and targets agree with one another. -/
def Obligations.LevelPathKept : Prop :=
  ∀ s t, StreamsOk s → ContributionsOk s → OverridesOk s → TargetsOk s → step s = .next t →
    StreamsOk t ∧ ContributionsOk t ∧ OverridesOk t ∧ TargetsOk t

/-- R96, R136, R137: the three collections keep their capacities and their places, no sequence number appears twice, and the
running slot is occupied exactly while an audit runs. -/
def Obligations.WindowAndAuditKept : Prop :=
  ∀ s t, WindowOk s → AuditOk s → step s = .next t → WindowOk t ∧ AuditOk t

/-- R113, R114, R128: the active set's references are defined, CLEAN means equal sets, an ARMED set stays valid. -/
def Obligations.TableReferencesKept : Prop :=
  ∀ s t, StagingOk s → step s = .next t → StagingOk t

/-- R2, R25, R43, R88, R146, R184, R188: the items of both table sets keep their form; confirm counts stay below 3; the group
set and the address stay in range, the bypass is disengaged only while the supply is up and RESETN high, an engaged one holds
the receiver in HUNT, and no hold of its switch lasts beyond 10 character times (R189). -/
def Obligations.FormsAndRangesKept : Prop :=
  ∀ s t, step s = .next t →
    (TablesOk s → TablesOk t) ∧ (MonitorsOk s → MonitorsOk t) ∧ (LinkOk s → LinkOk t)

/-! ### The ring -/

/-- R178, R182: the CRC takes its bytes one after another; of every whole frame the CRC sent is the exclusive-or of the CRC
received, the CRC in and the CRC out; so the frame leaves with a good CRC exactly when it came with one, and with the CRC as
received where nothing was substituted. The bytes substituted are those of R181. That a frame row brings its characters whole
is the model's form (assumption 6), and how the hold of the bypass switch masks them, with the count that is left of it, is
the model's choice (assumption 3). -/
def Obligations.CrcErrorPatternKept : Prop :=
  let shift := fun r : BitVec 16 => if r.getLsbD 15 = true then (r <<< 1) ^^^ 0x1021 else r <<< 1
  (crcOf [] = 0xFFFF ∧ ∀ bytes (b : Byte), crcOf (bytes ++ [b]) = shift^[8] (crcOf bytes ^^^ (b.setWidth 16 <<< 8)))
    ∧ ∀ c k l b crc s, frameOf c = some (k, l, b, crc) → AwaitsFrame s → Whole l b →
    let sent := bodySent s k l b
    let out := crc ^^^ goodCrc k l b ^^^ goodCrc k l sent
    ∃ t, exec c s = .next t ∧ t.ring.out = masked s.ring.holdLeft (frameOut k l sent out)
      ∧ t.ring.holdLeft = s.ring.holdLeft - lineBits (frameOut k l sent out)
      ∧ sent.length = b.length
      ∧ (out = goodCrc k l sent ↔ crc = goodCrc k l b)
      ∧ (sent = b → out = crc)

/-- R133 to R135, R138, R139: a COMMAND frame addressed to this node is the taking of its command; one that fails the body
checks or is not addressed has no effect. A code that names no command is taken as a normal command is: ignored where its
sequence number is held, queued or refused with QUEUE_FULL behind a running audit, and otherwise executed, which refuses it
with UNKNOWN_COMMAND. Command rows are the model's form of taking a command (assumption 5). What falls within the hold of the
bypass switch is not sent (assumption 3). -/
def Obligations.CommandFrameTakesCommand : Prop :=
  ∀ s, AwaitsFrame s →
    let toThisNode := fun (mode num : Byte) =>
      mode = 1 ∧ 1 ≤ num.toNat ∧ num.toNat ≤ 250 ∧ num = s.ring.address
        ∨ mode = 2 ∧ 1 ≤ num.toNat ∧ num.toNat ≤ 63 ∧ num ∈ s.command.groups ∨ mode = 3 ∧ num = 0
    let bodyOf := fun (mode num seq code : Byte) (params : List Byte) =>
      mode :: num :: seq :: code :: byteOf params.length :: params
    let arrives := fun (l : BitVec 16) (b : List Byte) (u : State) =>
      ∃ t, exec (.commandFrame l b (goodCrc 2 l b)) s = .next t ∧ t = { u with ring := t.ring }
        ∧ OnlyTransit s { s with ring := t.ring }
        ∧ t.ring.out = masked s.ring.holdLeft (frameOut 2 l b (goodCrc 2 l b))
    (∀ mode num seq code params (l : BitVec 16), params.length ≤ 64 → l.toNat = 5 + params.length → toThisNode mode num →
        let acts := arrives l (bodyOf mode num seq code params)
        (∀ row, commandOf code seq params = some row → ∃ u, exec row s = .next u ∧ acts u)
          ∧ (commandOf code seq params = none →
            ((∃ r ∈ heldRecords s.command, r.seq = seq) → acts s)
              ∧ (SeqFree s.command seq → s.command.running = none →
                  acts (repliedRefused s seq code .unknownCommand []))
              ∧ (SeqFree s.command seq → s.command.running ≠ none → s.command.queue.length < 4 →
                  acts { s with command := { s.command with queue := s.command.queue ++
                    [{ seq := seq, code := code, status := .queued, result := none, data := [], params := params }] } })
              ∧ (SeqFree s.command seq → s.command.running ≠ none → 4 ≤ s.command.queue.length →
                  acts (repliedRefused s seq code .queueFull []))))
      ∧ ∀ l b, Whole l b →
          (¬ ∃ mode num seq code params, params.length ≤ 64 ∧ toThisNode mode num
            ∧ b = bodyOf mode num seq code params) →
          arrives l b s

/-- R62, R179, R193: a whole frame of bad CRC, an over-length frame, a frame of unknown KIND and a LEVEL frame that fails a
body check change nothing but the frame in transit; all but the first are repeated as received. What falls within the hold of
the bypass switch is not sent (assumption 3). -/
def Obligations.RefusedFramesIgnored : Prop :=
  ∀ s, AwaitsFrame s →
    (∀ c k l b crc, frameOf c = some (k, l, b, crc) → b.length = l.toNat →
        (256 < l.toNat ∨ k = 0 ∨ 7 ≤ k.toNat →
            ∃ t, exec c s = .next t ∧ OnlyTransit s t ∧ t.ring.out = masked s.ring.holdLeft (frameOut k l b crc))
          ∧ (l.toNat ≤ 256 → crc ≠ goodCrc k l b → ∃ t, exec c s = .next t ∧ OnlyTransit s t ∧ t.ring.rx = .hunt))
      ∧ ∀ l b, Whole l b →
          (¬ ∃ (i : StreamId) (n : Byte) (slots : List Byte), b = byteOf i :: n :: slots ∧ 1 ≤ n.toNat ∧ n.toNat ≤ 240
            ∧ l.toNat = 2 + n.toNat ∧ (s.streams.get i).state ≠ .disabled) →
          ∃ t, exec (.levelFrame l b (goodCrc 1 l b)) s = .next t ∧ OnlyTransit s t
            ∧ t.ring.out = masked s.ring.holdLeft (frameOut 1 l b (goodCrc 1 l b))

/-- R177, R181: a lead-in, a frame break and a framing error truncate a frame in progress, one of LENGTH above 256 too,
whatever of it has come: nothing but the frame in transit changes, and the receiver is in LEAD-IN after the first and in HUNT
after the others. Up to the truncation the frame leaves as a whole one does, an over-length one as received. What falls within
the hold of the bypass switch is not sent (assumption 3). -/
def Obligations.TruncatedFramesIgnored : Prop :=
  ∀ s chars sent, AwaitsFrame s → CutShort s chars sent →
    let leaves := fun (rx : Receiver) (event : LineSym) (t : State) =>
      OnlyTransit s t ∧ t.ring.rx = rx ∧ t.ring.out = masked s.ring.holdLeft (sent.map .char ++ [event])
    (∀ bits, 30 ≤ bits → ∃ t, exec (.leadIn chars bits) s = .next t ∧ leaves .leadIn (.space bits) t)
      ∧ (∀ bits, 30 < bits → ∃ t, exec (.frameBreak chars bits) s = .next t ∧ leaves .hunt (.mark bits) t)
      ∧ ∀ bad, ∃ t, exec (.framingError chars bad) s = .next t ∧ leaves .hunt (.badChar bad) t

/-- R176: in HUNT every character is stray: repeated and without effect, a whole frame's characters too; a lead-in leads to
LEAD-IN unless it was under way as the bypass disengaged. What falls within the hold of the bypass switch is not sent
(assumption 3). -/
def Obligations.StrayCharactersRepeated : Prop :=
  ∀ s, ringConnected s = true → s.ring.rx = .hunt →
    let leaves := fun (x : List LineSym) (t : State) =>
      OnlyTransit s t ∧ t.ring.out = masked s.ring.holdLeft x ∧ t.ring.holdLeft = s.ring.holdLeft - lineBits x
    (∀ c k l b crc, frameOf c = some (k, l, b, crc) →
        ∃ t, exec c s = .next t ∧ leaves (frameOut k l b crc) t ∧ t.ring.rx = .hunt)
      ∧ (∀ chars bits, 30 ≤ bits →
          ∃ t, exec (.leadIn chars bits) s = .next t ∧ leaves (chars.map .char ++ [.space bits]) t
            ∧ t.ring.rx = (if s.ring.markSeen = false ∧ chars = [] then .hunt else .leadIn))
      ∧ (∀ chars bits, ∃ t, exec (.frameBreak chars bits) s = .next t ∧ leaves (chars.map .char ++ [.mark bits]) t
          ∧ t.ring.rx = .hunt)
      ∧ ∀ chars bad, ∃ t, exec (.framingError chars bad) s = .next t ∧ leaves (chars.map .char ++ [.badChar bad]) t
          ∧ t.ring.rx = .hunt

/-- R188: while the bypass is engaged every frame and every line event passes unchanged and nothing of it is taken, the receiver
included, and no command reaches the node. What falls within the hold of the bypass switch does not pass (R189, assumption 3).
Command rows are the model's form of taking a command (assumption 5). -/
def Obligations.BypassedNodeTakesNothing : Prop :=
  (∀ s, ringConnected s = true ↔ s.ring.bypass = .disengaged) ∧ ∀ s, s.ring.bypass = .engaged →
    let passes := fun (c : Instr) (x : List LineSym) =>
      exec c s = .next { s with ring := { s.ring with
        out := masked s.ring.holdLeft x, holdLeft := s.ring.holdLeft - lineBits x } }
    (∀ c k l b crc, frameOf c = some (k, l, b, crc) → passes c (frameOut k l b crc))
      ∧ (∀ chars bits, passes (.leadIn chars bits) (chars.map .char ++ [.space bits])
          ∧ passes (.frameBreak chars bits) (chars.map .char ++ [.mark bits]))
      ∧ (∀ chars bad, passes (.framingError chars bad) (chars.map .char ++ [.badChar bad]))
      ∧ ∀ c code seq params, commandOf code seq params = some c → exec c s = .next s

/-- R3, R4, R8, R9, R63: an accepted LEVEL frame makes its stream LIVE and updates every entry of the stream whose slots the
frame holds, in one event; nothing else of the patch unit or the streams changes. A frame row brings its characters whole
(assumption 6). What falls within the hold of the bypass switch is not sent (assumption 3). -/
def Obligations.LevelArrivalTakesValues : Prop :=
  ∀ s (i : StreamId) (slots : List Byte) (l : BitVec 16), AwaitsFrame s → 1 ≤ slots.length → slots.length ≤ 240 →
    l.toNat = 2 + slots.length → (s.streams.get i).state ≠ .disabled →
    let body := byteOf i :: byteOf slots.length :: slots
    let updated := fun k => EntryUpdated i slots.length (s.active.patch.get k)
    ∃ t, exec (.levelFrame l body (goodCrc 1 l body)) s = .next t
      ∧ (∀ j, t.streams.get j =
          if j = i then
            { s.streams.get i with
              state := .live, ticks := 0
              measured := if (s.streams.get i).state = .live then max 1 (s.streams.get i).ticks else 0 }
          else s.streams.get j)
      ∧ (∀ k e, s.active.patch.get k = some e → updated k →
          let x := t.patch.contributions.get k
          let coarse := (slots.getD e.coarse.val 0).toNat
          x.present = true ∧ x.curved = curvedValue s.active e.curve x.raw
            ∧ (e.fine = none → x.raw.toNat = coarse * 257)
            ∧ ∀ f, e.fine = some f → x.raw.toNat = coarse * 256 + (slots.getD f.val 0).toNat)
      ∧ (∀ k, ¬ updated k → t.patch.contributions.get k = s.patch.contributions.get k)
      ∧ (∀ c, (updated (keyOf c .a) → t.patch.lastUpdated.get c = .a)
          ∧ (¬ updated (keyOf c .a) → updated (keyOf c .b) → t.patch.lastUpdated.get c = .b)
          ∧ (¬ updated (keyOf c .a) → ¬ updated (keyOf c .b) → t.patch.lastUpdated.get c = s.patch.lastUpdated.get c))
      ∧ t = { s with ring := t.ring, streams := t.streams, patch := t.patch, target := t.target, ramps := t.ramps }
      ∧ OnlyTransit s { s with ring := t.ring } ∧ t.ring.out = masked s.ring.holdLeft (frameOut 1 l body (goodCrc 1 l body))

/-- R10, R32, R36: after an arrival the channels handed on are recomputed once; where the stream was LOST its LOSS overrides
are removed and their channels re-examined, and its contributions count again. -/
def Obligations.LevelArrivalRecomputes : Prop :=
  ∀ s (i : StreamId) (slots : List Byte) (l : BitVec 16), AwaitsFrame s → 1 ≤ slots.length → slots.length ≤ 240 →
    l.toNat = 2 + slots.length → (s.streams.get i).state ≠ .disabled →
    let body := byteOf i :: byteOf slots.length :: slots
    let wasLost := (s.streams.get i).state = .lost
    ∃ t, exec (.levelFrame l body (goodCrc 1 l body)) s = .next t
      ∧ (∀ c, t.target.overrides.get c =
          if wasLost ∧ heldByLoss s i c = true then lossOverride t c else s.target.overrides.get c)
      ∧ Recomputed (fun c =>
          t.patch.contributions.get (keyOf c .a) ≠ s.patch.contributions.get (keyOf c .a)
            ∨ t.patch.contributions.get (keyOf c .b) ≠ s.patch.contributions.get (keyOf c .b)
            ∨ t.patch.lastUpdated.get c ≠ s.patch.lastUpdated.get c
            ∨ wasLost ∧ (heldByLoss s i c = true
                ∨ (s.streams.get i).policy ≠ .hold ∧ hasPresent t i c = true)) s t

/-- R144, R145, R185: a POLL of this node's address leaves with the answer area of its sequence number, all from one lookup,
whatever its CRC; any other POLL is repeated unchanged; neither changes any state. A frame row brings its characters whole
(assumption 6). What falls within the hold of the bypass switch is not sent (assumption 3). -/
def Obligations.PollAnswered : Prop :=
  ∀ s (l : BitVec 16) (b : List Byte) crc, AwaitsFrame s → WindowOk s → Whole l b →
    ∃ t, exec (.pollFrame l b crc) s = .next t ∧ OnlyTransit s t
      ∧ (∀ seq area, b = s.ring.address :: seq :: area → s.ring.address ≠ 0 → l = 26 →
          let sent := s.ring.address :: seq :: pollArea s.command seq
          t.ring.out = masked s.ring.holdLeft (frameOut 3 l sent (carriedCrc 3 l b sent crc)))
      ∧ (l ≠ 26 ∨ b.head? ≠ some s.ring.address ∨ s.ring.address = 0 →
          t.ring.out = masked s.ring.holdLeft (frameOut 3 l b crc))

/-- R183, R184: an ENUMERATE of LENGTH 2 leaves with its counter raised, or the overflow flag set, whatever its CRC; where it
is accepted, the node adopts the counter received plus one, or 0. A frame row brings its characters whole (assumption 6). What
falls within the hold of the bypass switch is not sent (assumption 3). -/
def Obligations.EnumerateCountsAndAdopts : Prop :=
  ∀ s (l : BitVec 16) (b : List Byte) crc, AwaitsFrame s → Whole l b →
    ∃ t, exec (.enumerateFrame l b crc) s = .next t ∧ t = { s with ring := t.ring }
      ∧ OnlyTransit s { t with ring := { t.ring with address := s.ring.address } }
      ∧ (l ≠ 2 → t.ring.address = s.ring.address ∧ t.ring.out = masked s.ring.holdLeft (frameOut 4 l b crc))
      ∧ ∀ c flags, l = 2 → b = [c, flags] →
          let sent := if c.toNat < 250 then [c + 1, flags] else [c, flags ||| 1]
          t.ring.out = masked s.ring.holdLeft (frameOut 4 l sent (carriedCrc 4 l b sent crc))
            ∧ t.ring.address =
                if crc ≠ goodCrc 4 l b ∨ 250 < c.toNat then s.ring.address
                else if c.toNat < 250 ∧ flags.getLsbD 0 = false then c + 1
                else 0

/-- R127, R128: an accepted SYNC of LENGTH 2 commits on a node armed for its epoch, without touching the command unit, the
streams or a running audit; any other SYNC changes nothing. Driven and under-test marks: assumption 16. What falls within the
hold of the bypass switch is not sent (assumption 3). -/
def Obligations.SyncCommits : Prop :=
  ∀ s (l : BitVec 16) (b : List Byte), AwaitsFrame s → Whole l b →
    ∃ t, exec (.syncFrame l b (goodCrc 5 l b)) s = .next t
      ∧ t.ring.out = masked s.ring.holdLeft (frameOut 5 l b (goodCrc 5 l b))
      ∧ OnlyTransit s { s with ring := t.ring }
      ∧ (∀ e, s.staging.state = .armed e → l = 2 → b = wordBytes e → Committed s t ∧ t.command = s.command)
      ∧ ((∀ e, s.staging.state = .armed e → ¬ (l = 2 ∧ b = wordBytes e)) → OnlyTransit s t)

/-- R186, R187: a HEALTH frame leaves with this node's eight flags at the position of its address, whatever its CRC; a node
without a position in it repeats it; neither changes any state. A frame row brings its characters whole (assumption 6). What
falls within the hold of the bypass switch is not sent (assumption 3). -/
def Obligations.HealthByteWritten : Prop :=
  ∀ s (l : BitVec 16) (b : List Byte) crc, AwaitsFrame s → Whole l b →
    let m := (b.headD 0).toNat
    let a := s.ring.address.toNat
    ∃ t, exec (.healthFrame l b crc) s = .next t ∧ OnlyTransit s t
      ∧ (1 ≤ m → m ≤ 250 → l.toNat = 1 + m → 1 ≤ a → a ≤ m →
          ∃ h : Byte, t.ring.out = masked s.ring.holdLeft (frameOut 6 l (b.set a h) (carriedCrc 6 l b (b.set a h) crc))
            ∧ (h.getLsbD 7 = true ↔ s.output.switchOn = true)
            ∧ (h.getLsbD 6 = true ↔ s.output.thermal = .warm)
            ∧ (h.getLsbD 5 = true ↔ s.output.thermal = .hot)
            ∧ (h.getLsbD 4 = true ↔ ∃ c, (s.output.monitors.get c).latch ≠ none)
            ∧ (h.getLsbD 3 = true ↔ ∃ i, (s.streams.get i).state = .lost)
            ∧ (h.getLsbD 2 = true ↔ Armed s)
            ∧ (h.getLsbD 1 = true ↔ s.audit.run ≠ none)
            ∧ (h.getLsbD 0 = true ↔ s.command.queue ≠ []))
      ∧ (¬ (1 ≤ m ∧ m ≤ 250 ∧ l.toNat = 1 + m ∧ 1 ≤ a ∧ a ≤ m) →
          t.ring.out = masked s.ring.holdLeft (frameOut 6 l b crc))

/-! ### Time -/

/-- R35, R61, R66: a tick increments the count of every LIVE stream and loses those whose count has reached their effective
timeout, keeping count and measured period. It is the counting followed by the expiries of the streams that are due, each
taken whole in turn (the sub-step row is the model's reading, assumption 4; their order, assumption 7): a channel without an
override is given that of the first stream taken whose loss scene names it. While the blocks are held in reset a tick counts
nothing (DEDUCED, assumption 11). A stream of explicit timeout 1 is lost at every tick, one that falls together with its
arrival and is taken after it too, where R67 says that no loss occurs: the model's choice (assumption 24). That a tick comes
after the hold of the bypass switch is the model's choice (assumption 3). -/
def Obligations.TickCountsAndLoses : Prop :=
  ∀ s order,
    let due := fun r : StreamRecord => r.state = .live ∧ effectiveTimeout r ≤ r.ticks + 1
    let counted := fun r : StreamRecord => if r.state = .live then { r with ticks := r.ticks + 1 } else r
    let turn := order ++ List.finRange 16
    let after := { s with ring := { s.ring with holdLeft := 0 } }
    (blocksRun s = true → ∃ t, exec (.tick order) s = .next t
        ∧ (∀ i, (due (s.streams.get i) →
              t.streams.get i = { s.streams.get i with ticks := (s.streams.get i).ticks + 1, state := .lost })
            ∧ (¬ due (s.streams.get i) → t.streams.get i = counted (s.streams.get i)))
        ∧ t = { after with
            tickCount := s.tickCount + 1, streams := t.streams, target := t.target, ramps := t.ramps }
        ∧ ((∀ i, due (s.streams.get i) → (s.streams.get i).policy = .hold) → t.target = s.target ∧ t.ramps = s.ramps)
        ∧ t = expiredInOrder turn
            { after with tickCount := s.tickCount + 1, streams := Tab.of fun j => counted (s.streams.get j) }
        ∧ ∀ c, (∀ o, s.target.overrides.get c = some o → t.target.overrides.get c = some o)
            ∧ (s.target.overrides.get c = none → ∀ i before after, turn = before ++ i :: after → due (s.streams.get i) →
                lossApplied s i (s.streams.get i).policy none c ≠ none →
                (∀ j ∈ before, due (s.streams.get j) → lossApplied s j (s.streams.get j).policy none c = none) →
                t.target.overrides.get c = lossApplied s i (s.streams.get i).policy none c)
            ∧ (s.target.overrides.get c = none →
                (∀ i, due (s.streams.get i) → lossApplied s i (s.streams.get i).policy none c = none) →
                t.target.overrides.get c = none))
      ∧ (blocksRun s = false → exec (.tick order) s = .next after)

/-- R29, R30, R66: a due stream becomes LOST with its count and measured period held, and its loss policy is applied: nothing
under HOLD, its channels recomputed under RELEASE, loss overrides set as well under SCENE; a stream not due is left as it is.
The sub-step's row is the model's form (assumption 4). -/
def Obligations.StreamExpiryAppliesPolicy : Prop :=
  ∀ s (i : StreamId),
    let r := s.streams.get i
    (r.state = .live → effectiveTimeout r ≤ r.ticks → ∃ t, exec (.streamExpiry i) s = .next t
        ∧ (∀ j, t.streams.get j = if j = i then { r with state := .lost } else s.streams.get j)
        ∧ (∀ c, t.target.overrides.get c = lossApplied s i r.policy (s.target.overrides.get c) c)
        ∧ Recomputed (fun c => r.policy ≠ .hold
            ∧ (hasPresent s i c = true ∨ t.target.overrides.get c ≠ s.target.overrides.get c)) s t
        ∧ t = { s with streams := t.streams, target := t.target, ramps := t.ramps })
      ∧ (r.state ≠ .live ∨ r.ticks < effectiveTimeout r → exec (.streamExpiry i) s = .next s)

/-- R87, R88, R191: at a boundary that does not end a dwell each channel's period report is formed from its drive and its sense,
and its confirm count and latch follow the report, during an audit too: the channel under test keeps a count of 0. Sense voltages:
assumption 10. -/
def Obligations.BoundaryReportsAndConfirms : Prop :=
  ∀ s (peaks : Tab 24 Nat) order, blocksRun s = true → DwellGoesOn s →
    ∃ t, exec (.outputPeriodBoundary peaks order) s = .next t ∧ Judged s peaks t

/-- R43, R48, R49, R50, R85, R86, R87, R88, R92, R100, R101: a boundary is the period reports and the fault monitor, then the
ramp step (each WAITING channel counts, each MOVING channel takes one step that never passes its target) and an audit's
counting of one period, then the forming of the output levels and phase groups of the period that begins. Where the period
counted is the last of a dwell, that end of the dwell is taken within the boundary, and where it completes the audit the queue
drains before the ramp step, before the forming or after it, by the order given. The order within a boundary is the model's
reading (assumptions 4 and 9); sense voltages: assumption 10. While the blocks are held in reset a boundary does nothing
(DEDUCED, assumption 11). That a boundary comes after the hold of the bypass switch is the model's choice (assumption 3). -/
def Obligations.BoundaryStepsAndForms : Prop :=
  ∀ s (peaks : Tab 24 Nat) order,
    let after := { s with ring := { s.ring with holdLeft := 0 } }
    (blocksRun s = false → exec (.outputPeriodBoundary peaks order) s = .next after)
      ∧ (blocksRun s = true → ∃ t j, exec (.outputPeriodBoundary peaks order) s = .next t ∧ Judged s peaks j
      ∧ j = { after with output := { s.output with reports := j.output.reports, monitors := j.output.monitors } }
      ∧ (DwellGoesOn s → ∃ k, RampsStepped j k ∧ PeriodBegun (periodCounted k) t)
      ∧ ∀ run c r, s.audit.run = some run → run.under = some c → run.dwell ≤ run.periods + 1 →
          s.command.running = some r →
          match order with
          | .auditFirst =>
            ∃ d k, exec .auditDwellEnd (periodCounted j) = .next d ∧ RampsStepped d k ∧ PeriodBegun k t
          | .rampsFirst =>
            ∃ k d, RampsStepped j k ∧ exec .auditDwellEnd (periodCounted k) = .next d ∧ PeriodBegun d t
          | .drainLast =>
            ∃ k u v, RampsStepped j k ∧ DwellClosed (periodCounted k) { run with periods := run.periods + 1 } c u
              ∧ PeriodBegun u v ∧ t = if u.audit.run = none then drain v else v)

/-- R48: a WAITING channel with no boundary left to count becomes MOVING, its level as it was; any other channel is left as it
is, and so is every other record. The sub-step's row is the model's form (assumption 4). -/
def Obligations.RampDelayExpires : Prop :=
  ∀ s (c : Channel), ∃ t, exec (.rampDelayExpiry c) s = .next t
    ∧ (∀ d, t.ramps.get d =
        if d = c ∧ (s.ramps.get c).state = .waiting ∧ (s.ramps.get c).delay = 0 then
          { level := (s.ramps.get c).level, state := .moving, delay := 0 }
        else s.ramps.get d)
    ∧ t = { s with ramps := t.ramps }

/-- R88, R89: a confirm count of 3 returns to 0 and sets the latch, which keeps its first kind; the FAULT flag is set, and the
output level is formed afresh under the fault action. The sub-step's row is the model's form (assumption 4). Driven and
under-test marks: assumption 16. -/
def Obligations.FaultLatchSets : Prop :=
  ∀ s (c : Channel), (s.output.monitors.get c).count = 3 →
    ∃ t, exec (.faultLatchSet c) s = .next t
      ∧ (∀ d, t.output.monitors.get d =
          if d = c then
            { s.output.monitors.get c with
              count := 0
              latch := match (s.output.monitors.get c).latch with
                | some k => some k
                | none => some (s.output.monitors.get c).pending }
          else s.output.monitors.get d)
      ∧ (healthByte t).getLsbD 4 = true ∧ FormedAtOnce s t
      ∧ ((s.active.config.get c).faultAction = .forceOff → t.output.levels.get c = 0)
      ∧ t = { s with output := { s.output with
          monitors := t.output.monitors, levels := t.output.levels, driven := t.output.driven
          tested := t.output.tested } }

/-! ### The audit's own events -/

/-- R99, R100: at the end of a dwell the channel under test is classified from its period report, the channels latched under
FORCE_OFF above it are skipped, and the next channel of the mask is taken. The sub-step's row is the model's form (assumption
4). Driven and under-test marks: assumption 16. -/
def Obligations.DwellEndTakesNext : Prop :=
  ∀ s run (c d : Channel), s.audit.run = some run → run.under = some c → run.dwell ≤ run.periods →
    NextTested s run.mask (fun e => c < e) d →
    let verdict := verdictOf (s.output.reports.get c)
    let between := fun e : Channel => decide (c < e) && decide (e < d) && inMask run.mask e
    ∃ t, exec .auditDwellEnd s = .next t
      ∧ t.audit.run = some { run with
          under := some d, periods := 0, tallies := tallied run.tallies verdict (countChannels between) }
      ∧ (∀ e, t.audit.results.get e =
          if e = c then verdict else if between e = true then .skipped else s.audit.results.get e)
      ∧ FormedAtOnce s t
      ∧ t = { s with
          audit := t.audit
          output := { s.output with
            levels := t.output.levels, driven := t.output.driven, tested := t.output.tested } }

/-- R100, R101, R140: where the classified channel was the last to take, and where an audit has no channel left, the audit
completes: IDLE, its record DONE with result OK and the tallies, the levels formed, and the queue drains. The sub-step's row
is the model's form (assumption 4). Driven and under-test marks: assumption 16. -/
def Obligations.AuditCompletes : Prop :=
  ∀ s run r, s.audit.run = some run → s.command.running = some r →
    (∀ c, run.under = some c → run.dwell ≤ run.periods →
        (∀ e, c < e → inMask run.mask e = true → Skips s e) →
        ∃ u, exec .auditDwellEnd s = .next (drain u) ∧ u.audit.run = none ∧ DwellClosed s run c u)
      ∧ (run.under = none → (∀ e, inMask run.mask e = true → s.audit.results.get e ≠ .notTested) →
        ∃ u, exec .auditComplete s = .next (drain u) ∧ u.audit = { s.audit with run := none }
          ∧ u.command = { withReply s.command (auditRecord r .ok run.tallies) with running := none }
          ∧ FormedAtOnce s u
          ∧ u = { s with
              audit := u.audit, command := u.command
              output := { s.output with
                levels := u.output.levels, driven := u.output.driven, tested := u.output.tested } })

/-- R140: draining a queue has the effect of its commands sent one after another with nothing between them; a code that names no
command is refused with UNKNOWN_COMMAND, or waits behind an audit that has begun (R138, R139). Command rows are the model's form
of taking a command (assumption 5). -/
def Obligations.DrainingIsSendingInOrder : Prop :=
  ∀ s, ringConnected s = true → s.command.running = none → s.command.queue.length ≤ 4 →
    ((heldRecords s.command).map Record.seq).Nodup →
    (∀ r ∈ s.command.queue, r.status = .queued ∧ r.result = none ∧ r.data = [] ∧ r.params.length ≤ 64
      ∧ r.code ≠ 15 ∧ r.code ≠ 18 ∧ r.code ≠ 21
      ∧ ¬ (r.code = 20 ∧ r.params.length = 4 ∧ r.params.head? = some 8)) →
    drain s = sentInOrder s.command.queue { s with command := { s.command with queue := [] } }

/-! ### Supply, reset line and sensor -/

/-- R81, R82, R105: the sensor moves the thermal condition one step by its thresholds, whose hysteresis the table gives; the
levels are formed at once, and entry into HOT aborts a running audit and drains the queue. Whole degrees: assumption 8. Driven
and under-test marks: assumption 16. While the blocks are held in reset the sensor moves nothing (DEDUCED, assumption 11). -/
def Obligations.ThermalConditionMoves : Prop :=
  ∀ s (d : Int), (blocksRun s = false → exec (.thermalConditionChange d) s = .next s) ∧ (blocksRun s = true →
    let new : Thermal :=
      match s.output.thermal with
      | .cool => if d ≥ 105 then .warm else .cool
      | .warm => if d ≥ 135 then .hot else if d ≤ 95 then .cool else .warm
      | .hot => if d ≤ 120 then .warm else .hot
    let changed := fun u : State =>
      FormedAtOnce s u
        ∧ u.output = { s.output with
            thermal := new, levels := u.output.levels, driven := u.output.driven, tested := u.output.tested }
    (new = s.output.thermal → exec (.thermalConditionChange d) s = .next s)
      ∧ (new ≠ s.output.thermal → (new ≠ .hot ∨ s.audit.run = none ∧ s.command.running = none) →
          ∃ t, exec (.thermalConditionChange d) s = .next t ∧ changed t ∧ t = { s with output := t.output }
            ∧ (new = .hot → ∀ c, t.output.levels.get c = 0))
      ∧ ∀ run c r, new = .hot → s.output.thermal = .warm → s.audit.run = some run → run.under = some c →
          s.command.running = some r →
          ∃ u, exec (.thermalConditionChange d) s = .next (drain u) ∧ changed u
            ∧ u.audit = { run := none, results := s.audit.results.put c .aborted }
            ∧ u.command = { withReply s.command (auditRecord r .aborted run.tallies) with running := none }
            ∧ (∀ e, u.output.levels.get e = 0)
            ∧ u = { s with output := u.output, audit := u.audit, command := u.command })

/-- R18, R40, R57, R76, R81, R94, R110, R131, R149, R188 to R190: the supply returning and RESETN released put every block in
its reset state with the bypass engaged and address 0; where both are up the sensor starts afresh. Held mark is a free value
(assumption 3); either event without a fall before it acts as if one had come (assumption 12). That the thermal condition is
kept where the other condition is still bad is DEDUCED (assumption 11); the reset values of the period reports and of the hold
are the model's (assumption 13). -/
def Obligations.PowerOnAndReleaseReset : Prop :=
  ∀ s (d : Int), ∃ t u,
    let fresh : Thermal := if d < 105 then .cool else if d < 135 then .warm else .hot
    let held := fun x : State =>
      if s.ring.bypass = .engaged then x.ring.out = [] ∧ x.ring.holdLeft = s.ring.holdLeft ∧ x.freeCount = s.freeCount
      else HeldInMark [] 0 x ∧ x.freeCount = s.freeCount + 1
    exec (.powerOn d) s = .next t ∧ blocksReset s t ∧ linkReset t ∧ held t
      ∧ t.ring.supplyOk = true ∧ t.ring.resetnHigh = s.ring.resetnHigh
      ∧ t.output.thermal = (if s.ring.resetnHigh = true then fresh else s.output.thermal)
      ∧ exec (.resetnRelease d) s = .next u ∧ blocksReset s u ∧ linkReset u ∧ held u
      ∧ u.ring.resetnHigh = true ∧ u.ring.supplyOk = s.ring.supplyOk
      ∧ u.output.thermal = (if s.ring.supplyOk = true then fresh else s.output.thermal)

/-- R110, R188, R189, R191: the supply falling and RESETN going low engage the bypass, cut the frame in transit, which left as
received but for the bytes substituted, end everything that ran, and hold every drive output low. Blocks hold their reset
values while the condition lasts (DEDUCED, assumption 11); held mark: assumption 3. Reset values no rule gives: assumption 13.
-/
def Obligations.PowerFailAndAssertHold : Prop :=
  (∀ s, blocksRun s = true ↔ s.ring.supplyOk = true ∧ s.ring.resetnHigh = true) ∧ ∀ s chars, ∃ t u,
    let left := fun x : State => ∃ sent : List Byte, sent.length = chars.length
      ∧ (s.ring.rx = .hunt → sent = chars)
      ∧ (∀ cut, AwaitsFrame s → CutShort s chars cut → sent = cut)
      ∧ if s.ring.bypass = .engaged then
          sent = chars ∧ x.ring.out = masked s.ring.holdLeft (sent.map .char)
            ∧ x.ring.holdLeft = s.ring.holdLeft - lineBits (sent.map .char) ∧ x.freeCount = s.freeCount
        else HeldInMark (masked s.ring.holdLeft (sent.map .char)) 0 x ∧ x.freeCount = s.freeCount + 1
    exec (.powerFail chars) s = .next t ∧ blocksReset s t ∧ linkReset t ∧ left t
      ∧ t.ring.supplyOk = false ∧ t.ring.resetnHigh = s.ring.resetnHigh ∧ t.output.thermal = s.output.thermal
      ∧ (∀ c n, driveHigh t c n = false)
      ∧ exec (.resetnAssert chars) s = .next u ∧ blocksReset s u ∧ linkReset u ∧ left u
      ∧ u.ring.resetnHigh = false ∧ u.ring.supplyOk = s.ring.supplyOk ∧ u.output.thermal = s.output.thermal
      ∧ (∀ c n, driveHigh u c n = false)

/-- R176, R188, R189, R190: at the end of initialisation the bypass disengages, the receiver starts in HUNT with no frame in
transit and both CRCs at FFFFh; RING OUT is held in mark for 4 to 10 character times, from which on it is one character time
behind RING IN, and no other block changes. Held mark is a free value (assumption 3). -/
def Obligations.InitialisationEnds : Prop :=
  ∀ s chars lineInSpace, blocksRun s = true → s.ring.bypass = .engaged →
    ∃ t, exec (.initialisationEnd chars lineInSpace) s = .next t
      ∧ t.ring.bypass = .disengaged ∧ t.ring.rx = .hunt ∧ t.ring.plan = .repeated ∧ t.ring.body = []
      ∧ t.ring.crcIn = 0xFFFF ∧ t.ring.crcOut = 0xFFFF ∧ (t.ring.markSeen = true ↔ lineInSpace = false)
      ∧ HeldInMark (masked s.ring.holdLeft (chars.map .char)) 1 t
      ∧ t.ring.address = s.ring.address ∧ t.ring.supplyOk = s.ring.supplyOk ∧ t.ring.resetnHigh = s.ring.resetnHigh
      ∧ t = { s with ring := t.ring, freeCount := s.freeCount + 1 }

/-! ### Commands: their parameters and their taking -/

/-- R192, section 11.4: every command's parameter block, written by its layout with every value its ranges admit, is decoded
as that command. The bytes of a field stand most significant first, and channel c is the bit of weight 2 ^ c of a mask. -/
def Obligations.ParameterBlocksDecode : Prop :=
  (∀ c, CmdOk c → parse (codeOf c) (paramsOf c) = .ok c)
    ∧ (∀ n, (byteOf n).toNat = n % 256)
    ∧ (∀ w, wordBytes w = [byteOf (w.toNat / 256), byteOf w.toNat])
    ∧ (∀ high low, (wordOf high low).toNat = 256 * high.toNat + low.toNat)
    ∧ (∀ m, maskBytes m = [byteOf (m.toNat / 65536), byteOf (m.toNat / 256), byteOf m.toNat])
    ∧ (∀ high mid low, (maskOf high mid low).toNat = 65536 * high.toNat + 256 * mid.toNat + low.toNat)
    ∧ (∀ m c, inMask m c = true ↔ m.toNat / 2 ^ c.val % 2 = 1)
    ∧ (∀ x c, inMask (namedMask x) c = true ↔ (x.get c).isSome = true)
    ∧ ∀ p : Channel → Bool, countChannels p = (Finset.univ.filter fun c => p c = true).card

/-- R138, R141, R151, R195: a parameter length that a command does not allow, and a value outside its field, refuse it with
BAD_PARAM and change nothing but the reply list: OUTPUTS OFF, ABORT AUDIT, NODE RESET and a READ of node status while an audit
runs too, which neither abort nor reset nor drain then. Command rows are the model's form of taking a command (assumption 5). -/
def Obligations.WrongParametersRefused : Prop :=
  ∀ s seq, Takes s seq →
    let refuses := fun (code : Byte) (p : List Byte) =>
      ∀ row, commandOf code seq p = some row → exec row s = .next (repliedRefused s seq code .badParam [])
    (∀ code p, code = 15 ∨ code = 18 ∨ code = 21 → p ≠ [] → p.length ≤ 64 → refuses code p)
      ∧ (∀ set index part, set ≠ 0 ∨ index ≠ 0 ∨ part ≠ 0 → refuses 20 [8, set, index, part])
      ∧ (s.command.running = none →
        (∀ code p, p.length ≤ 64 → lengthAllowed code p.length = false → refuses code p)
        ∧ (∀ p g, p.length ≤ 4 → g ∈ p → g.toNat = 0 ∨ 63 < g.toNat → refuses 1 p)
        ∧ (∀ p, p.length ≤ 4 → ¬ p.Nodup → refuses 1 p)
        ∧ (∀ ch pos act, 23 < ch.toNat ∨ 1 < pos.toNat ∨ act ≠ 0 → refuses 2 [ch, pos, act])
        ∧ (∀ ch pos act st co fi cu, 23 < ch.toNat ∨ 1 < pos.toNat ∨ act ≠ 1 ∨ 15 < st.toNat ∨ 239 < co.toNat
            ∨ 239 < fi.toNat ∧ fi ≠ 0xFF ∨ fi = co ∨ 7 < cu.toNat → refuses 2 [ch, pos, act, st, co, fi, cu])
        ∧ (∀ ch pr me r1 r0 fa ph, 23 < ch.toNat ∨ 15 < pr.toNat ∨ 2 < me.toNat ∨ 1 < fa.toNat ∨ 3 < ph.toNat →
            refuses 3 [ch, pr, me, r1, r0, fa, ph])
        ∧ (∀ n act, n.toNat = 0 ∨ 15 < n.toNat ∨ act ≠ 0 → refuses 4 [n, act])
        ∧ (∀ n act delay k rest, rest.length ≤ 60 → n.toNat = 0 ∨ 15 < n.toNat ∨ act ≠ 1 ∨ k.toNat = 0 ∨ 4 < k.toNat
            ∨ rest.length + 4 ≠ 2 + 6 * k.toNat ∨ (0 : BitVec 16) ∈ wordsOf rest
            ∨ ¬ ((wordsOf rest).take (k.toNat - 1)).Pairwise (· < ·) → refuses 4 (n :: act :: delay :: k :: rest))
        ∧ (∀ n act rest, rest.length ≤ 62 → n.toNat = 0 ∨ 7 < n.toNat
            ∨ (act ≠ 0 ∨ rest ≠ []) ∧ (act ≠ 1 ∨ rest.length ≠ 34) →
            refuses 5 (n :: act :: rest))
        ∧ (∀ n act, 7 < n.toNat ∨ act ≠ 0 → refuses 6 [n, act])
        ∧ (∀ n act m2 m1 m0 rest, rest.length ≤ 59 → 7 < n.toNat ∨ act ≠ 1 ∨ maskOf m2 m1 m0 = 0
            ∨ rest.length ≠ 2 * countChannels (inMask (maskOf m2 m1 m0)) →
            refuses 6 (n :: act :: m2 :: m1 :: m0 :: rest))
        ∧ (∀ st en t1 t0 po sc, 15 < st.toNat ∨ 1 < en.toNat ∨ 2 < po.toNat ∨ 7 < sc.toNat →
            refuses 11 [st, en, t1, t0, po, sc])
        ∧ (∀ n rest, rest.length ≤ 63 → 7 < n.toNat → refuses 12 (n :: rest))
        ∧ (∀ n p m2 m1 m0, 15 < p.toNat → refuses 12 [n, p] ∧ refuses 12 [n, m2, m1, m0, p])
        ∧ (∀ m2 m1 m0 l1 l0 d, maskOf m2 m1 m0 = 0 ∨ wordOf l1 l0 = 0 ∨ d.toNat < 4 ∨ 64 < d.toNat →
            refuses 17 [m2, m1, m0, l1, l0, d])
        ∧ ∀ item set index part, item.toNat = 0 ∨ 8 < item.toNat ∨ 1 < set.toNat ∨ 5 < item.toNat ∧ set ≠ 0
            ∨ (item = 1 ∧ (47 < index.toNat ∨ part ≠ 0)) ∨ (item = 2 ∧ (23 < index.toNat ∨ part ≠ 0))
            ∨ (item = 3 ∧ (15 < index.toNat ∨ 1 < part.toNat)) ∨ (item = 4 ∧ (7 < index.toNat ∨ 2 < part.toNat))
            ∨ (item = 5 ∧ (7 < index.toNat ∨ 3 < part.toNat)) ∨ (item = 6 ∧ (23 < index.toNat ∨ part ≠ 0))
            ∨ (item = 7 ∧ (15 < index.toNat ∨ part ≠ 0)) ∨ (item = 8 ∧ (index ≠ 0 ∨ part ≠ 0)) →
            refuses 20 [item, set, index, part])

/-- R135, R137, R139: a command whose sequence number is held is ignored; behind a running audit a normal command is queued
with its parameters, or refused with QUEUE_FULL where the queue holds 4. Command rows are the model's form of taking a command
(assumption 5). -/
def Obligations.DuplicatesIgnoredNormalsQueued : Prop :=
  ∀ s row code seq params, ringConnected s = true → commandOf code seq params = some row → params.length ≤ 64 →
    ((∃ r ∈ heldRecords s.command, r.seq = seq) → exec row s = .next s)
      ∧ (SeqFree s.command seq → s.command.running ≠ none → code ≠ 15 → code ≠ 18 → code ≠ 21 →
          ¬ (code = 20 ∧ params.length = 4 ∧ params.head? = some 8) →
          (s.command.queue.length < 4 →
              exec row s = .next { s with command := { s.command with queue := s.command.queue ++
                [{ seq := seq, code := code, status := .queued, result := none, data := [], params := params }] } })
            ∧ (4 ≤ s.command.queue.length → exec row s = .next (repliedRefused s seq code .queueFull [])))

/-- R146, R152: SET GROUPS replaces the group set by the numbers of its list, held in ascending order. Command rows are the
model's form of taking a command (assumption 5). -/
def Obligations.SetGroupsReplaces : Prop :=
  ∀ s seq l, Ready s seq → CmdOk (.setGroups l) →
    ∃ g, exec (.setGroups seq l) s
        = .next { s with command := { withReply s.command (doneRecord seq 1 []) with groups := g } }
      ∧ (∀ x, x ∈ g ↔ x ∈ l) ∧ g.Pairwise (· < ·)

/-! ### Commands: tables -/

/-- R115 to R120: outside ARMED each table write replaces its one item of the staged set, makes the state EDITED, and is DONE
with result OK and no data. Command rows are the model's form of taking a command (assumption 5). -/
def Obligations.TableWritesStage : Prop :=
  ∀ s seq, Ready s seq → ¬ Armed s →
    let staged := s.staging.staged
    let next := fun (code : Byte) (t : TableSet) =>
      { repliedDone s seq code [] with staging := { staged := t, state := .edited } }
    (∀ k e, CmdOk (.writePatch k e) →
        ∃ x, exec (.writePatch seq (paramsOf (.writePatch k e))) s = .next (next 2 { staged with patch := x })
          ∧ ∀ j, x.get j = if j = k then e else staged.patch.get j)
      ∧ (∀ c g, ∃ x, exec (.writeChannel seq (paramsOf (.writeChannel c g))) s = .next (next 3 { staged with config := x })
          ∧ ∀ j, x.get j = if j = c then g else staged.config.get j)
      ∧ (∀ n p, CmdOk (.writeProfile n p) →
          ∃ x, exec (.writeProfile seq (paramsOf (.writeProfile n p))) s = .next (next 4 { staged with profiles := x })
            ∧ ∀ j, x.get j = if j = n then p else staged.profiles.get j)
      ∧ (∀ n p, ∃ x, exec (.writeCurve seq (paramsOf (.writeCurve n p))) s = .next (next 5 { staged with curves := x })
          ∧ ∀ j, x.get j = if j = n then p else staged.curves.get j)
      ∧ ∀ n y, CmdOk (.writeScene n y) →
          ∃ x, exec (.writeScene seq (paramsOf (.writeScene n y))) s = .next (next 6 { staged with scenes := x })
            ∧ ∀ j, x.get j = if j = n then y else staged.scenes.get j

/-- R114, R115: while staging is ARMED every table write that is well formed is refused with BAD_STATE and changes nothing.
Command rows are the model's form of taking a command (assumption 5). -/
def Obligations.ArmedRefusesTableWrites : Prop :=
  ∀ s seq, Ready s seq → Armed s →
    (∀ k e, CmdOk (.writePatch k e) →
        exec (.writePatch seq (paramsOf (.writePatch k e))) s = .next (repliedRefused s seq 2 .badState []))
      ∧ (∀ c g, exec (.writeChannel seq (paramsOf (.writeChannel c g))) s = .next (repliedRefused s seq 3 .badState []))
      ∧ (∀ n p, CmdOk (.writeProfile n p) →
          exec (.writeProfile seq (paramsOf (.writeProfile n p))) s = .next (repliedRefused s seq 4 .badState []))
      ∧ (∀ n p, exec (.writeCurve seq (paramsOf (.writeCurve n p))) s = .next (repliedRefused s seq 5 .badState []))
      ∧ ∀ n y, CmdOk (.writeScene n y) →
          exec (.writeScene seq (paramsOf (.writeScene n y))) s = .next (repliedRefused s seq 6 .badState [])

/-- R121, R125: COPY ACTIVE makes the staged set equal to the active set and the state CLEAN, in every state; DISARM makes
ARMED into EDITED and keeps the staged set, and changes nothing otherwise. Command rows are the model's form of taking a
command (assumption 5). -/
def Obligations.CopyActiveAndDisarm : Prop :=
  ∀ s seq, Ready s seq →
    exec (.copyActive seq []) s
        = .next { repliedDone s seq 7 [] with staging := { staged := s.active, state := .clean } }
      ∧ (Armed s → exec (.disarm seq []) s
        = .next { repliedDone s seq 9 [] with staging := { s.staging with state := .edited } })
      ∧ (¬ Armed s → exec (.disarm seq []) s = .next (repliedDone s seq 9 []))

/-- R122, R123: validation passes exactly where every reference is defined; otherwise it names the first item, in the order of
the table, whose reference is missing, with the table, the index, the reason and the number of what is missing. -/
def Obligations.ValidationFindsFirst : Prop :=
  ∀ t o r,
    (validate t o r = none ↔ RefsDefined t o r)
      ∧ ∀ v, validate t o r = some v →
          (v.table = .patch → v.reason = .curve ∧ ∃ k e, v.index = k.val ∧ t.patch.get k = some e
              ∧ v.reference = e.curve.val ∧ curveDefined t e.curve = false
              ∧ ∀ j < k, ∀ e', t.patch.get j = some e' → curveDefined t e'.curve = true)
            ∧ (v.table ≠ .patch → ∀ k e, t.patch.get k = some e → curveDefined t e.curve = true)
            ∧ (v.table = .channel → v.reason = .profile ∧ ∃ c : Channel, v.index = c.val
              ∧ v.reference = (t.config.get c).profile.val ∧ profileOf t (t.config.get c).profile = none
              ∧ ∀ d < c, profileOf t (t.config.get d).profile ≠ none)
            ∧ (v.table = .override → v.reason = .profile ∧ ∃ (c : Channel) (x : Override) (p : Fin 16), v.index = c.val
              ∧ o.get c = some x ∧ x.origin = .command ∧ x.profile = some p ∧ v.reference = p.val ∧ profileOf t p = none
              ∧ (∀ d, profileOf t (t.config.get d).profile ≠ none)
              ∧ ∀ d < c, ∀ y q, o.get d = some y → y.origin = .command → y.profile = some q → profileOf t q ≠ none)
            ∧ (v.table = .stream → v.reason = .scene ∧ ∃ (i : StreamId) (n : Fin 8), v.index = i.val
              ∧ (r.get i).policy = .scene n ∧ v.reference = n.val ∧ t.scenes.get n = none
              ∧ (∀ d, profileOf t (t.config.get d).profile ≠ none)
              ∧ (∀ d y q, o.get d = some y → y.origin = .command → y.profile = some q → profileOf t q ≠ none)
              ∧ ∀ j < i, ∀ m, (r.get j).policy = .scene m → t.scenes.get m ≠ none)

/-- R123, R124, R126: ARM arms a staged set that passes validation, and moves an ARMED node to another epoch without
validating; a set that fails is refused by ARM, and by COMMIT NOW in EDITED, with INVALID_SET and the four fields of the first
failure, the staging state as it was. Command rows are the model's form of taking a command (assumption 5). -/
def Obligations.ArmValidates : Prop :=
  ∀ s seq (e : BitVec 16), Ready s seq →
    let passes := RefsDefined s.staging.staged s.target.overrides s.streams
    let armed := { repliedDone s seq 8 [] with staging := { s.staging with state := .armed e } }
    let fields := fun v : Invalid =>
      [match v.table with | .patch => 1 | .channel => 2 | .override => 3 | .stream => 4, byteOf v.index,
        match v.reason with | .curve => 1 | .profile => 2 | .scene => 3, byteOf v.reference]
    (Armed s ∨ passes → exec (.arm seq (wordBytes e)) s = .next armed)
      ∧ (¬ Armed s → ¬ passes →
          ∃ v, validate s.staging.staged s.target.overrides s.streams = some v
            ∧ exec (.arm seq (wordBytes e)) s = .next (repliedRefused s seq 8 .invalidSet (fields v))
            ∧ (s.staging.state = .edited →
                exec (.commitNow seq []) s = .next (repliedRefused s seq 10 .invalidSet (fields v))))

/-- R14, R15, R38, R54, R55, R92, R126, R128: COMMIT NOW commits in ARMED, and in EDITED where the staged set passes
validation; in CLEAN it changes nothing. Command rows are the model's form of taking a command (assumption 5). Driven and
under-test marks: assumption 16. -/
def Obligations.CommitNowCommits : Prop :=
  ∀ s seq, Ready s seq →
    (Armed s ∨ s.staging.state = .edited ∧ RefsDefined s.staging.staged s.target.overrides s.streams →
        ∃ t, exec (.commitNow seq []) s = .next t ∧ Committed s t
          ∧ t.command = withReply s.command (doneRecord seq 10 []) ∧ t.ring = s.ring)
      ∧ (s.staging.state = .clean → exec (.commitNow seq []) s = .next (repliedDone s seq 10 []))

/-! ### Commands: streams and overrides -/

/-- R68 to R72, R159: SET STREAM records its timeout and its policy, and acts by its enable and the state the stream was in;
its data are the state after it. A SCENE policy naming a scene not defined where it is needed refuses it. Command rows are the
model's form of taking a command (assumption 5). -/
def Obligations.SetStreamRecords : Prop :=
  ∀ s seq (i : StreamId) enable timeout policy, Ready s seq → timeout ≠ .ticks 0 →
    let row := Instr.setStream seq (paramsOf (.setStream i enable timeout policy))
    let named := ∀ n, policy = .scene n → DefinedWhereNeeded s fun t => t.scenes.get n ≠ none
    let old := s.streams.get i
    let r := { old with timeout := timeout, policy := policy }
    (named → ∃ t, exec row s = .next t
        ∧ (∀ j, t.streams.get j =
            if j = i then
              match old.state, enable with
              | .disabled, false => r
              | .disabled, true => { r with state := .silent, measured := 0, ticks := 0 }
              | .live, true => if effectiveTimeout r ≤ r.ticks then { r with state := .lost } else r
              | _, true => r
              | _, false => { r with state := .disabled, measured := 0, ticks := 0 }
            else s.streams.get j)
        ∧ t.command = withReply s.command (doneRecord seq 11 [streamStateNumber (t.streams.get i).state])
        ∧ t = { s with
            streams := t.streams, patch := t.patch, target := t.target, ramps := t.ramps, command := t.command }
        ∧ (old.state = .disabled ∨ old.state = .silent ∧ enable = true
            ∨ old.state = .live ∧ enable = true ∧ r.ticks < effectiveTimeout r
            ∨ old.state = .lost ∧ enable = true ∧ policy = old.policy →
            t.patch = s.patch ∧ t.target = s.target ∧ t.ramps = s.ramps))
      ∧ (¬ named → exec row s = .next (repliedRefused s seq 11 .undefinedRef []))

/-- R12, R33, R70: a disable makes absent every contribution whose active entry names the stream, removes its LOSS overrides,
re-examines their channels, and recomputes the channels concerned. Command rows are the model's form of taking a command
(assumption 5). -/
def Obligations.SetStreamDisables : Prop :=
  ∀ s seq (i : StreamId) timeout policy, Ready s seq → timeout ≠ .ticks 0 → (s.streams.get i).state ≠ .disabled →
    (∀ n, policy = .scene n → DefinedWhereNeeded s fun t => t.scenes.get n ≠ none) →
    ∃ t, exec (.setStream seq (paramsOf (.setStream i false timeout policy))) s = .next t
      ∧ (t.streams.get i).state = .disabled
      ∧ (∀ k, t.patch.contributions.get k =
          if (s.active.patch.get k).map PatchEntry.stream = some i then { present := false, raw := 0, curved := 0 }
          else s.patch.contributions.get k)
      ∧ t.patch.lastUpdated = s.patch.lastUpdated
      ∧ (∀ c, t.target.overrides.get c =
          if heldByLoss s i c = true then lossOverride t c else s.target.overrides.get c)
      ∧ Recomputed (fun c =>
          t.patch.contributions.get (keyOf c .a) ≠ s.patch.contributions.get (keyOf c .a)
            ∨ t.patch.contributions.get (keyOf c .b) ≠ s.patch.contributions.get (keyOf c .b)
            ∨ heldByLoss s i c = true) s t

/-- R29, R34, R72, R73: a new policy on a LOST stream removes its LOSS overrides, re-examines their channels, applies a new
scene and recomputes the channels concerned; a LIVE stream whose count has reached its new timeout is lost at once, and its
new policy is applied. Command rows are the model's form of taking a command (assumption 5). -/
def Obligations.SetStreamChangesLoss : Prop :=
  ∀ s seq (i : StreamId) timeout policy, Ready s seq → timeout ≠ .ticks 0 →
    (∀ n, policy = .scene n → DefinedWhereNeeded s fun t => t.scenes.get n ≠ none) →
    let row := Instr.setStream seq (paramsOf (.setStream i true timeout policy))
    let old := s.streams.get i
    (old.state = .lost → policy ≠ old.policy → ∃ t, exec row s = .next t ∧ t.patch = s.patch
        ∧ (∀ c, t.target.overrides.get c =
            lossApplied t i policy
              (if heldByLoss s i c = true then lossOverride t c else s.target.overrides.get c) c)
        ∧ Recomputed (fun c => heldByLoss s i c = true ∨ t.target.overrides.get c ≠ s.target.overrides.get c
            ∨ (old.policy = .hold ∨ policy = .hold) ∧ hasPresent s i c = true) s t)
      ∧ (old.state = .live → effectiveTimeout { old with timeout := timeout, policy := policy } ≤ old.ticks →
          ∃ t, exec row s = .next t ∧ t.patch = s.patch
            ∧ (∀ c, t.target.overrides.get c = lossApplied s i policy (s.target.overrides.get c) c)
            ∧ Recomputed (fun c => policy ≠ .hold
                ∧ (hasPresent s i c = true ∨ t.target.overrides.get c ≠ s.target.overrides.get c)) s t)

/-- R26, R27, R160: RECALL SCENE sets a COMMAND override on each channel both in its mask and named by the scene, recomputes
those channels and reports how many they are; a scene or a profile not defined where it is needed refuses it. That in ARMED
the scene is needed in the active set alone (R26, R160, against a reading of R114) is the model's choice (assumption 27), and
command rows are the model's form of taking a command (assumption 5). -/
def Obligations.RecallSceneSetsOverrides : Prop :=
  ∀ s seq (n : Fin 8) (mask : Option Mask) (profile : Option (Fin 16)), Ready s seq →
    let row := Instr.recallScene seq (paramsOf (.recallScene n mask profile))
    let named := s.active.scenes.get n ≠ none
      ∧ ∀ p, profile = some p → DefinedWhereNeeded s fun t => profileOf t p ≠ none
    let inBoth := fun c : Channel => (mask.all fun m => inMask m c) && (sceneLevel s.active n c).isSome
    (named → ∃ t, exec row s = .next t
        ∧ (∀ c, t.target.overrides.get c =
            match sceneLevel s.active n c with
            | some l => if inBoth c = true then some { origin := .command, level := l, profile := profile }
                else s.target.overrides.get c
            | none => s.target.overrides.get c)
        ∧ Recomputed (fun c => inBoth c = true) s t
        ∧ t = { repliedDone s seq 12 [byteOf (countChannels inBoth)] with target := t.target, ramps := t.ramps })
      ∧ (¬ named → exec row s = .next (repliedRefused s seq 12 .undefinedRef []))

/-- R28, R31, R161: RELEASE removes the overrides of its mask, re-examines their channels for lost streams, recomputes them,
and reports how many were removed and how many were set again. Command rows are the model's form of taking a command
(assumption 5). -/
def Obligations.ReleaseReexamines : Prop :=
  ∀ s seq (m : Mask), Ready s seq →
    let chosen := fun c : Channel => inMask m c && (s.target.overrides.get c).isSome
    ∃ t, exec (.release seq (maskBytes m)) s = .next t
      ∧ (∀ c, t.target.overrides.get c = if chosen c = true then lossOverride s c else s.target.overrides.get c)
      ∧ (∀ c o, lossOverride s c = some o → ∃ i n, o.origin = .loss i ∧ o.profile = none
          ∧ (s.streams.get i).state = .lost ∧ (s.streams.get i).policy = .scene n ∧ patchedTo s.active c i = true
          ∧ sceneLevel s.active n c = some o.level
          ∧ ∀ j < i, ∀ k, (s.streams.get j).state = .lost → (s.streams.get j).policy = .scene k →
              patchedTo s.active c j = true → sceneLevel s.active k c = none)
      ∧ (∀ c, lossOverride s c = none → ∀ j k, (s.streams.get j).state = .lost → (s.streams.get j).policy = .scene k →
          patchedTo s.active c j = true → sceneLevel s.active k c = none)
      ∧ Recomputed (fun c => chosen c = true) s t
      ∧ t = { repliedDone s seq 13
            [byteOf (countChannels chosen), byteOf (countChannels fun c => chosen c && (lossOverride s c).isSome)] with
          target := t.target, ramps := t.ramps }

/-! ### Commands: outputs, faults and the audit -/

/-- R78, R80: OUTPUTS ON sets the switch, SET CEILING replaces the ceiling; each forms every output level at once. Command
rows are the model's form of taking a command (assumption 5). Driven and under-test marks: assumption 16. -/
def Obligations.OutputsOnAndSetCeiling : Prop :=
  ∀ s seq (l : Level), Ready s seq →
    ∃ t u, exec (.outputsOn seq []) s = .next t ∧ FormedAtOnce s t
      ∧ t = { repliedDone s seq 14 [] with output := { s.output with
          switchOn := true, levels := t.output.levels, driven := t.output.driven, tested := t.output.tested } }
      ∧ exec (.setCeiling seq (wordBytes l)) s = .next u ∧ FormedAtOnce s u
      ∧ u = { repliedDone s seq 19 [] with output := { s.output with
          ceiling := l, levels := u.output.levels, driven := u.output.driven, tested := u.output.tested } }

/-- R79, R103, R104, R141: OUTPUTS OFF and ABORT AUDIT are taken whatever the collections hold. With no audit running they add
their own record alone. A running audit is aborted: the channel under test ABORTED, the audit's record with the tallies as
they stood, then the command's own record, then the queue drains. OUTPUTS OFF darkens every channel. Command rows are the
model's form of taking a command (assumption 5). Driven and under-test marks: assumption 16. -/
def Obligations.UrgentCommandsAbort : Prop :=
  ∀ s seq, Takes s seq →
    let formed := fun (on : Bool) (u : State) =>
      FormedAtOnce s u ∧ u.output = { s.output with
        switchOn := on, levels := u.output.levels, driven := u.output.driven, tested := u.output.tested }
    (s.audit.run = none → s.command.running = none →
        (∃ t, exec (.outputsOff seq []) s = .next t ∧ formed false t ∧ (∀ c, t.output.levels.get c = 0)
          ∧ t = { repliedDone s seq 15 [] with output := t.output })
          ∧ exec (.abortAudit seq []) s = .next (repliedDone s seq 18 []))
      ∧ ∀ run c r, s.audit.run = some run → run.under = some c → s.command.running = some r →
          let results := s.audit.results.put c .aborted
          let records := fun code : Byte =>
            { withReply (withReply s.command (auditRecord r .aborted run.tallies)) (doneRecord seq code []) with
              running := none }
          ∃ t u, exec (.outputsOff seq []) s = .next (drain t) ∧ formed false t ∧ (∀ c, t.output.levels.get c = 0)
            ∧ t = { s with
                audit := { run := none, results := results }, command := records 15, output := t.output }
            ∧ exec (.abortAudit seq []) s = .next (drain u) ∧ formed s.output.switchOn u
            ∧ u = { s with
                audit := { run := none, results := results }, command := records 18, output := u.output }

/-- R90, R163: CLEAR FAULTS sets the latches and counts of its mask to NONE and 0, keeps the pending kinds, forms the output
levels at once and reports how many latches it cleared. Command rows are the model's form of taking a command (assumption 5).
Driven and under-test marks: assumption 16. -/
def Obligations.ClearFaultsClears : Prop :=
  ∀ s seq (m : Mask), Ready s seq →
    ∃ t, exec (.clearFaults seq (maskBytes m)) s = .next t
      ∧ (∀ c, t.output.monitors.get c =
          if inMask m c = true then { s.output.monitors.get c with count := 0, latch := none }
          else s.output.monitors.get c)
      ∧ FormedAtOnce s t
      ∧ t = { repliedDone s seq 16
            [byteOf (countChannels fun c => inMask m c && (s.output.monitors.get c).latch.isSome)] with
          output := { s.output with
            monitors := t.output.monitors, levels := t.output.levels, driven := t.output.driven
            tested := t.output.tested } }

/-- R97, R98, R99, R101: START AUDIT begins with the first channel of its mask that is not latched under FORCE_OFF, those
below it SKIPPED, and holds the running slot; where every channel is skipped it is DONE at once with its tallies; while the
outputs are OFF or the condition is HOT it is refused with BAD_STATE. Command rows are the model's form of taking a command
(assumption 5). Driven and under-test marks: assumption 16. -/
def Obligations.StartAuditBegins : Prop :=
  ∀ s seq (m : Mask) (l : Level) (d : Nat), Ready s seq → CmdOk (.startAudit m l d) →
    let row := Instr.startAudit seq (paramsOf (.startAudit m l d))
    let may := s.output.switchOn = true ∧ s.output.thermal ≠ .hot
    let formed := fun t : State =>
      FormedAtOnce s t ∧ t.output = { s.output with
        levels := t.output.levels, driven := t.output.driven, tested := t.output.tested }
    (∀ c, may → NextTested s m (fun _ => True) c →
        let below := fun e : Channel => decide (e < c) && inMask m e
        ∃ t, exec row s = .next t
          ∧ t.audit.run = some
              { mask := m, testLevel := l, dwell := d, under := some c, periods := 0
                tallies := { pass := 0, openLoad := 0, shortLoad := 0, skipped := countChannels below } }
          ∧ (∀ e, t.audit.results.get e = if below e = true then .skipped else .notTested)
          ∧ t.command = { s.command with
              running := some (Record.mk seq 17 .running none [] []) }
          ∧ formed t ∧ t = { s with audit := t.audit, command := t.command, output := t.output })
      ∧ (may → (∀ e, inMask m e = true → Skips s e) →
        ∃ t, exec row s = .next t ∧ t.audit.run = none
          ∧ (∀ e, t.audit.results.get e = if inMask m e = true then .skipped else .notTested)
          ∧ t.command = withReply s.command (doneRecord seq 17 [0, 0, 0, byteOf (countChannels (inMask m))])
          ∧ formed t ∧ t = { s with audit := t.audit, command := t.command, output := t.output })
      ∧ (¬ may → exec row s = .next (repliedRefused s seq 17 .badState []))

/-! ### READ and NODE RESET -/

/-- R166 to R171, R196, section 11.5: READ changes nothing but the reply list, where its record stands with the item's data in
its layout. Command rows are the model's form of taking a command (assumption 5). Profile 0 reads as the fixed one of R42
(R56). -/
def Obligations.ReadReports : Prop :=
  ∀ s seq, Ready s seq →
    let reads := fun (item : ReadItem) (data : List Byte) =>
      exec (.read seq (readParams item)) s = .next (repliedDone s seq 20 data)
    let setOf := fun x : SetName => match x with | .active => s.active | .staged => s.staging.staged
    let zeros := fun n : Nat => List.replicate n (0 : Byte)
    let number := fun n : Nat => wordBytes (BitVec.ofNat 16 n)
    (∀ x k, (setOf x).patch.get k = none → reads (.patchEntry x k) [0, 0, 0, 0xFF, 0])
      ∧ (∀ x k e, (setOf x).patch.get k = some e → reads (.patchEntry x k)
          [1, byteOf e.stream, byteOf e.coarse, (match e.fine with | none => 0xFF | some f => byteOf f), byteOf e.curve])
      ∧ (∀ x c, let g := (setOf x).config.get c
          reads (.channelConfig x c) ([byteOf g.profile, mergeRuleNumber g.mergeRule] ++ wordBytes g.rest
            ++ [faultActionNumber g.faultAction, byteOf g.phase]))
      ∧ (∀ x n, profileOf (setOf x) n = none → reads (.profile x n 0) (zeros 9) ∧ reads (.profile x n 1) (zeros 18))
      ∧ (∀ x n p, profileOf (setOf x) n = some p → ProfileOk p →
          reads (.profile x n 0) ([1, p.delay, byteOf p.segments.length]
              ++ p.segments.dropLast.flatMap (fun g => number g.bound) ++ zeros (2 * (4 - p.segments.length)))
            ∧ reads (.profile x n 1) ([1, byteOf p.segments.length]
              ++ p.segments.flatMap (fun g => wordBytes g.rise ++ wordBytes g.fall)
              ++ zeros (4 * (4 - p.segments.length))))
      ∧ (∀ x, reads (.profile x 0 0) [1, 0, 1, 0, 0, 0, 0, 0, 0]
          ∧ reads (.profile x 0 1) ([1, 1, 0xFF, 0xFF, 0xFF, 0xFF] ++ zeros 12))
      ∧ (∀ x n, curveOf (setOf x) n = none →
          let state : Byte := if n = 0 then 2 else 0
          reads (.curve x n 0) (state :: zeros 12) ∧ reads (.curve x n 1) (state :: zeros 12)
            ∧ reads (.curve x n 2) (state :: zeros 10))
      ∧ (∀ x n p, curveOf (setOf x) n = some p →
          let points := fun from' count : Nat =>
            (List.range count).flatMap fun i => wordBytes (p.get (Fin.ofNat 17 (from' + i)))
          reads (.curve x n 0) (1 :: points 0 6) ∧ reads (.curve x n 1) (1 :: points 6 6)
            ∧ reads (.curve x n 2) (1 :: points 12 5))
      ∧ (∀ x n j, (setOf x).scenes.get n = none → reads (.scene x n j) (zeros 17))
      ∧ (∀ x n (j : Fin 4) y, (setOf x).scenes.get n = some y →
          let part := (((List.finRange 24).filterMap y.get).drop (6 * j.val)).take 6
          reads (.scene x n j) ([1] ++ maskBytes (namedMask y) ++ [byteOf part.length] ++ part.flatMap wordBytes
            ++ zeros (2 * (6 - part.length))))
      ∧ (∀ c, let r := s.ramps.get c
          let contribution := fun q => let x := s.patch.contributions.get (keyOf c q)
            if x.present = true then 1 :: wordBytes x.curved else zeros 3
          reads (.channelStatus c) ([rampStateNumber r.state] ++ wordBytes r.level ++ wordBytes (s.target.targets.get c)
            ++ (match s.target.overrides.get c with
                | none => zeros 4
                | some o => (match o.origin with | .command => [1, 0] | .loss i => [2, byteOf i]) ++ wordBytes o.level)
            ++ [latchNumber (s.output.monitors.get c).latch, auditResultNumber (s.audit.results.get c)]
            ++ contribution .a ++ contribution .b))
      ∧ ∀ i, let r := s.streams.get i
          reads (.streamStatus i) ([if r.state = .disabled then 0 else 1, streamStateNumber r.state]
            ++ wordBytes (match r.timeout with | .auto => 0 | .ticks n => n)
            ++ (match r.policy with | .hold => [0, 0] | .release => [1, 0] | .scene n => [2, byteOf n])
            ++ number r.measured ++ number r.ticks ++ number (effectiveTimeout r))

/-- R138, R148, R171: a READ of node status executes on acceptance, whatever the running slot and the queue hold, and reports
the node-wide state without counting itself. Command rows are the model's form of taking a command (assumption 5). -/
def Obligations.NodeStatusReadAtOnce : Prop :=
  ∀ s seq, Takes s seq → s.command.groups.length ≤ 4 →
    let g := s.command.groups
    exec (.read seq [8, 0, 0, 0]) s = .next (repliedDone s seq 20
      ([s.ring.address, byteOf g.length] ++ g ++ List.replicate (4 - g.length) 0
        ++ (match s.staging.state with | .clean => [0, 0, 0] | .edited => [1, 0, 0] | .armed e => 2 :: wordBytes e)
        ++ [if s.output.switchOn = true then 1 else 0,
            (match s.output.thermal with | .cool => 0 | .warm => 1 | .hot => 2),
            (match s.audit.run with | none => 0 | some _ => 1),
            (match s.audit.run.bind AuditRun.under with | none => 0xFF | some c => byteOf c),
            byteOf s.command.queue.length, byteOf s.command.replies.length]
        ++ wordBytes s.output.ceiling))

/-- R19, R41, R58, R77, R95, R111, R132, R150, R173, R174: NODE RESET is taken whatever the collections hold; it empties them
and puts every block in its reset state, keeping the address, the groups, the thermal condition, the timebase and the ring,
and leaves its own record alone in the reply list. Phase groups in use: assumption 20. Command rows are the model's form of
taking a command (assumption 5). Reset values no rule gives: assumption 13. -/
def Obligations.NodeResetResets : Prop :=
  ∀ s seq, Takes s seq →
    exec (.nodeReset seq []) s = .next { State.reset with
      pending := s.pending, ring := s.ring, tickCount := s.tickCount, freeCount := s.freeCount
      output := OutputStage.reset s.output.thermal
      command :=
        { groups := s.command.groups, running := none, queue := [], replies := [doneRecord seq 21 []] } }

/-! ### Arithmetic of the level path -/

/-- R6: the curved value of a raw value through the 17 points of a defined curve 1 to 7, and its bounds; curve 0 is the identity
(R5). -/
def Obligations.CurveArithmetic : Prop :=
  ∀ (p : Curve) (x : Level),
    (∀ t : TableSet, curvedValue t 0 x = x ∧ curveOf t 0 = none ∧ curveDefined t 0 = true
        ∧ ∀ n, curveOf t n.succ = t.curves.get n ∧ (curveDefined t n.succ = true ↔ t.curves.get n ≠ none)
          ∧ (t.curves.get n = some p → curvedValue t n.succ x = applyCurve p x))
      ∧ (x = 65535 → applyCurve p x = p.get 16)
      ∧ (x ≠ 65535 → ∀ (k : Fin 16), x.toNat / 4096 = k.val →
          let f : Int := x.toNat % 4096
          let low : Int := (p.get k.castSucc).toNat
          let high : Int := (p.get k.succ).toNat
          ((applyCurve p x).toNat : Int) = low + ((high - low) * f).tdiv 4096
            ∧ min low high ≤ (applyCurve p x).toNat ∧ ((applyCurve p x).toNat : Int) ≤ max low high)

/-- R20, R21, R22, R24, R42: the target is the override's level, else the merge result by the channel's rule over its usable
contributions, else the rest level; the profile in effect is a COMMAND override's, else the configured one, and profile 0 is the
fixed one. What the rules of loss and recomputation read of a channel (R1, R23, R25, R30) is spelled out with it. -/
def Obligations.TargetByPrecedence : Prop :=
  ∀ s (c : Channel),
    let a := Usable s c .a
    let b := Usable s c .b
    let va := curvedAt s c .a
    let vb := curvedAt s c .b
    let g := s.active.config.get c
    (∀ o, s.target.overrides.get c = some o → targetOf s c = o.level)
      ∧ (s.target.overrides.get c = none →
          (¬ a → ¬ b → targetOf s c = g.rest)
            ∧ (a → ¬ b → targetOf s c = va) ∧ (¬ a → b → targetOf s c = vb)
            ∧ (a → b → targetOf s c =
                match g.mergeRule with
                | .highest => if va ≤ vb then vb else va
                | .latest => (match s.patch.lastUpdated.get c with | .a => va | .b => vb)
                | .aFirst => va))
      ∧ (∀ o p, s.target.overrides.get c = some o → o.origin = .command → o.profile = some p → profileInEffect s c = p)
      ∧ ((∀ o, s.target.overrides.get c = some o → o.origin ≠ .command ∨ o.profile = none) →
          profileInEffect s c = g.profile)
      ∧ (∀ p, profileOf s.active (profileInEffect s c) = some p → profileFor s c = p)
      ∧ (∀ t, profileOf t 0 = some { delay := 0, segments := [{ bound := 65536, rise := 65535, fall := 65535 }] }
          ∧ ∀ n, profileOf t n.succ = t.profiles.get n)
      ∧ ((keyOf c .a).val = 2 * c.val ∧ (keyOf c .b).val = 2 * c.val + 1)
      ∧ (∀ i, hasPresent s i c = true ↔ ∃ q e, s.active.patch.get (keyOf c q) = some e ∧ e.stream = i
          ∧ (s.patch.contributions.get (keyOf c q)).present = true)
      ∧ (∀ t i, patchedTo t c i = true ↔ ∃ q e, t.patch.get (keyOf c q) = some e ∧ e.stream = i)
      ∧ (∀ t n, sceneLevel t n c = (t.scenes.get n).bind fun x => x.get c)
      ∧ ∀ i, heldByLoss s i c = true ↔ ∃ o, s.target.overrides.get c = some o ∧ o.origin = .loss i

/-- R65: the effective timeout is the setting, or under AUTO four measured periods within 200 to 20000, or 20000 while the
period is unknown. -/
def Obligations.EffectiveTimeoutFormed : Prop :=
  ∀ r : StreamRecord,
    (∀ n, r.timeout = .ticks n → effectiveTimeout r = n.toNat)
      ∧ (r.timeout = .auto → r.measured = 0 → effectiveTimeout r = 20000)
      ∧ (r.timeout = .auto → 0 < r.measured →
          (4 * r.measured < 200 → effectiveTimeout r = 200)
            ∧ (20000 < 4 * r.measured → effectiveTimeout r = 20000)
            ∧ (200 ≤ 4 * r.measured → 4 * r.measured ≤ 20000 → effectiveTimeout r = 4 * r.measured))

/-- R86: the drive of a channel is on for exactly its duty within a period, whatever its phase group, from the group's quarter
of the period on, round the period as a circle. A period counts 262140 = 4 × 65535 instants here. -/
def Obligations.DriveFollowsDutyAndPhase : Prop :=
  ∀ s (c : Channel), blocksRun s = true →
    let level := (s.output.levels.get c).toNat
    let offset := (s.output.phases.get c).val * 65535
    ((List.range 262140).filter (driveHigh s c)).length = 4 * level
      ∧ ∀ n < 262140, (driveHigh s c ((offset + n) % 262140) = true ↔ n < 4 * level)
end

