-- ==== Sys2Proof/Laws/Tab.lean ====
section
/-! SUPPORT. Tables: reading a cell of a table that was made by a rule, changed in one cell or filled, and equality cell by
cell. -/

namespace Sys2Proof

@[simp] theorem Tab.get_of {n : Nat} {α : Type} (f : Fin n → α) (i : Fin n) : (Tab.of f).get i = f i := by
  simp [Tab.of, Tab.get]

@[simp] theorem Tab.get_all {n : Nat} {α : Type} (x : α) (i : Fin n) : (Tab.all x : Tab n α).get i = x := by
  simp [Tab.all]

theorem Tab.get_put {n : Nat} {α : Type} (t : Tab n α) (i j : Fin n) (x : α) :
    (t.put i x).get j = if j = i then x else t.get j := by
  simp [Tab.put]

@[simp] theorem Tab.get_put_same {n : Nat} {α : Type} (t : Tab n α) (i : Fin n) (x : α) : (t.put i x).get i = x := by
  simp [Tab.get_put]

@[simp] theorem Tab.get_put_other {n : Nat} {α : Type} (t : Tab n α) {i j : Fin n} (x : α) (h : j ≠ i) :
    (t.put i x).get j = t.get j := by
  simp [Tab.get_put, h]

/-- Two tables with the same cells are the same table. -/
theorem Tab.ext_get {n : Nat} {α : Type} {t u : Tab n α} (h : ∀ i, t.get i = u.get i) : t = u := by
  cases t with
  | mk a =>
    cases u with
    | mk b =>
      congr
      ext i hi
      exact h ⟨i, hi⟩

/-- A table is the one made by its own cells. -/
theorem Tab.of_get {n : Nat} {α : Type} (t : Tab n α) : Tab.of t.get = t := Tab.ext_get fun i => by simp

/-- A cell put back with what it holds leaves the table as it is. -/
theorem Tab.put_get {n : Nat} {α : Type} (t : Tab n α) (i : Fin n) : t.put i (t.get i) = t :=
  Tab.ext_get fun j => by
    rw [Tab.get_put]
    split
    · next h => rw [h]
    · rfl

end Sys2Proof
end

