-- ==== Sys2Proof/Laws/State.lean ====
section
/-! SUPPORT. What each update of the state leaves as it was: one lemma for each field and update, so that no proof unfolds a
record. -/

namespace Sys2Proof.Machine

@[simp] theorem setStream_pending (i : StreamId) (r : StreamRecord) (s : State) : (setStream i r s).pending = s.pending := by
  simp only [setStream]
@[simp] theorem setStream_ring (i : StreamId) (r : StreamRecord) (s : State) : (setStream i r s).ring = s.ring := by
  simp only [setStream]
@[simp] theorem setStream_tickCount (i : StreamId) (r : StreamRecord) (s : State) : (setStream i r s).tickCount = s.tickCount := by
  simp only [setStream]
@[simp] theorem setStream_active (i : StreamId) (r : StreamRecord) (s : State) : (setStream i r s).active = s.active := by
  simp only [setStream]
@[simp] theorem setStream_staging (i : StreamId) (r : StreamRecord) (s : State) : (setStream i r s).staging = s.staging := by
  simp only [setStream]
@[simp] theorem setStream_patch (i : StreamId) (r : StreamRecord) (s : State) : (setStream i r s).patch = s.patch := by
  simp only [setStream]
@[simp] theorem setStream_target (i : StreamId) (r : StreamRecord) (s : State) : (setStream i r s).target = s.target := by
  simp only [setStream]
@[simp] theorem setStream_ramps (i : StreamId) (r : StreamRecord) (s : State) : (setStream i r s).ramps = s.ramps := by
  simp only [setStream]
@[simp] theorem setStream_output (i : StreamId) (r : StreamRecord) (s : State) : (setStream i r s).output = s.output := by
  simp only [setStream]
@[simp] theorem setStream_audit (i : StreamId) (r : StreamRecord) (s : State) : (setStream i r s).audit = s.audit := by
  simp only [setStream]
@[simp] theorem setStream_command (i : StreamId) (r : StreamRecord) (s : State) : (setStream i r s).command = s.command := by
  simp only [setStream]
@[simp] theorem setStream_freeCount (i : StreamId) (r : StreamRecord) (s : State) : (setStream i r s).freeCount = s.freeCount := by
  simp only [setStream]

@[simp] theorem countTicks_pending (s : State) : (countTicks s).pending = s.pending := by
  simp only [countTicks]
@[simp] theorem countTicks_ring (s : State) : (countTicks s).ring = s.ring := by
  simp only [countTicks]
@[simp] theorem countTicks_tickCount (s : State) : (countTicks s).tickCount = s.tickCount := by
  simp only [countTicks]
@[simp] theorem countTicks_active (s : State) : (countTicks s).active = s.active := by
  simp only [countTicks]
@[simp] theorem countTicks_staging (s : State) : (countTicks s).staging = s.staging := by
  simp only [countTicks]
@[simp] theorem countTicks_patch (s : State) : (countTicks s).patch = s.patch := by
  simp only [countTicks]
@[simp] theorem countTicks_target (s : State) : (countTicks s).target = s.target := by
  simp only [countTicks]
@[simp] theorem countTicks_ramps (s : State) : (countTicks s).ramps = s.ramps := by
  simp only [countTicks]
@[simp] theorem countTicks_output (s : State) : (countTicks s).output = s.output := by
  simp only [countTicks]
@[simp] theorem countTicks_audit (s : State) : (countTicks s).audit = s.audit := by
  simp only [countTicks]
@[simp] theorem countTicks_command (s : State) : (countTicks s).command = s.command := by
  simp only [countTicks]
@[simp] theorem countTicks_freeCount (s : State) : (countTicks s).freeCount = s.freeCount := by
  simp only [countTicks]

@[simp] theorem takeValues_pending (i : StreamId) (l : List Byte) (s : State) : (takeValues i l s).pending = s.pending := by
  simp only [takeValues]
@[simp] theorem takeValues_ring (i : StreamId) (l : List Byte) (s : State) : (takeValues i l s).ring = s.ring := by
  simp only [takeValues]
@[simp] theorem takeValues_tickCount (i : StreamId) (l : List Byte) (s : State) : (takeValues i l s).tickCount = s.tickCount := by
  simp only [takeValues]
@[simp] theorem takeValues_streams (i : StreamId) (l : List Byte) (s : State) : (takeValues i l s).streams = s.streams := by
  simp only [takeValues]
@[simp] theorem takeValues_active (i : StreamId) (l : List Byte) (s : State) : (takeValues i l s).active = s.active := by
  simp only [takeValues]
@[simp] theorem takeValues_staging (i : StreamId) (l : List Byte) (s : State) : (takeValues i l s).staging = s.staging := by
  simp only [takeValues]
@[simp] theorem takeValues_target (i : StreamId) (l : List Byte) (s : State) : (takeValues i l s).target = s.target := by
  simp only [takeValues]
@[simp] theorem takeValues_ramps (i : StreamId) (l : List Byte) (s : State) : (takeValues i l s).ramps = s.ramps := by
  simp only [takeValues]
@[simp] theorem takeValues_output (i : StreamId) (l : List Byte) (s : State) : (takeValues i l s).output = s.output := by
  simp only [takeValues]
@[simp] theorem takeValues_audit (i : StreamId) (l : List Byte) (s : State) : (takeValues i l s).audit = s.audit := by
  simp only [takeValues]
@[simp] theorem takeValues_command (i : StreamId) (l : List Byte) (s : State) : (takeValues i l s).command = s.command := by
  simp only [takeValues]
@[simp] theorem takeValues_freeCount (i : StreamId) (l : List Byte) (s : State) : (takeValues i l s).freeCount = s.freeCount := by
  simp only [takeValues]

@[simp] theorem dropValues_pending (i : StreamId) (s : State) : (dropValues i s).pending = s.pending := by
  simp only [dropValues]
@[simp] theorem dropValues_ring (i : StreamId) (s : State) : (dropValues i s).ring = s.ring := by
  simp only [dropValues]
@[simp] theorem dropValues_tickCount (i : StreamId) (s : State) : (dropValues i s).tickCount = s.tickCount := by
  simp only [dropValues]
@[simp] theorem dropValues_streams (i : StreamId) (s : State) : (dropValues i s).streams = s.streams := by
  simp only [dropValues]
@[simp] theorem dropValues_active (i : StreamId) (s : State) : (dropValues i s).active = s.active := by
  simp only [dropValues]
@[simp] theorem dropValues_staging (i : StreamId) (s : State) : (dropValues i s).staging = s.staging := by
  simp only [dropValues]
@[simp] theorem dropValues_target (i : StreamId) (s : State) : (dropValues i s).target = s.target := by
  simp only [dropValues]
@[simp] theorem dropValues_ramps (i : StreamId) (s : State) : (dropValues i s).ramps = s.ramps := by
  simp only [dropValues]
@[simp] theorem dropValues_output (i : StreamId) (s : State) : (dropValues i s).output = s.output := by
  simp only [dropValues]
@[simp] theorem dropValues_audit (i : StreamId) (s : State) : (dropValues i s).audit = s.audit := by
  simp only [dropValues]
@[simp] theorem dropValues_command (i : StreamId) (s : State) : (dropValues i s).command = s.command := by
  simp only [dropValues]
@[simp] theorem dropValues_freeCount (i : StreamId) (s : State) : (dropValues i s).freeCount = s.freeCount := by
  simp only [dropValues]

@[simp] theorem reexamine_pending (p : Channel → Bool) (s : State) : (reexamine p s).pending = s.pending := by
  simp only [reexamine]
@[simp] theorem reexamine_ring (p : Channel → Bool) (s : State) : (reexamine p s).ring = s.ring := by
  simp only [reexamine]
@[simp] theorem reexamine_tickCount (p : Channel → Bool) (s : State) : (reexamine p s).tickCount = s.tickCount := by
  simp only [reexamine]
@[simp] theorem reexamine_streams (p : Channel → Bool) (s : State) : (reexamine p s).streams = s.streams := by
  simp only [reexamine]
@[simp] theorem reexamine_active (p : Channel → Bool) (s : State) : (reexamine p s).active = s.active := by
  simp only [reexamine]
@[simp] theorem reexamine_staging (p : Channel → Bool) (s : State) : (reexamine p s).staging = s.staging := by
  simp only [reexamine]
@[simp] theorem reexamine_patch (p : Channel → Bool) (s : State) : (reexamine p s).patch = s.patch := by
  simp only [reexamine]
@[simp] theorem reexamine_ramps (p : Channel → Bool) (s : State) : (reexamine p s).ramps = s.ramps := by
  simp only [reexamine]
@[simp] theorem reexamine_output (p : Channel → Bool) (s : State) : (reexamine p s).output = s.output := by
  simp only [reexamine]
@[simp] theorem reexamine_audit (p : Channel → Bool) (s : State) : (reexamine p s).audit = s.audit := by
  simp only [reexamine]
@[simp] theorem reexamine_command (p : Channel → Bool) (s : State) : (reexamine p s).command = s.command := by
  simp only [reexamine]
@[simp] theorem reexamine_freeCount (p : Channel → Bool) (s : State) : (reexamine p s).freeCount = s.freeCount := by
  simp only [reexamine]

@[simp] theorem removeOverrides_pending (p : Channel → Bool) (s : State) : (removeOverrides p s).pending = s.pending := by
  simp only [removeOverrides]
@[simp] theorem removeOverrides_ring (p : Channel → Bool) (s : State) : (removeOverrides p s).ring = s.ring := by
  simp only [removeOverrides]
@[simp] theorem removeOverrides_tickCount (p : Channel → Bool) (s : State) : (removeOverrides p s).tickCount = s.tickCount := by
  simp only [removeOverrides]
@[simp] theorem removeOverrides_streams (p : Channel → Bool) (s : State) : (removeOverrides p s).streams = s.streams := by
  simp only [removeOverrides]
@[simp] theorem removeOverrides_active (p : Channel → Bool) (s : State) : (removeOverrides p s).active = s.active := by
  simp only [removeOverrides]
@[simp] theorem removeOverrides_staging (p : Channel → Bool) (s : State) : (removeOverrides p s).staging = s.staging := by
  simp only [removeOverrides]
@[simp] theorem removeOverrides_patch (p : Channel → Bool) (s : State) : (removeOverrides p s).patch = s.patch := by
  simp only [removeOverrides]
@[simp] theorem removeOverrides_ramps (p : Channel → Bool) (s : State) : (removeOverrides p s).ramps = s.ramps := by
  simp only [removeOverrides]
@[simp] theorem removeOverrides_output (p : Channel → Bool) (s : State) : (removeOverrides p s).output = s.output := by
  simp only [removeOverrides]
@[simp] theorem removeOverrides_audit (p : Channel → Bool) (s : State) : (removeOverrides p s).audit = s.audit := by
  simp only [removeOverrides]
@[simp] theorem removeOverrides_command (p : Channel → Bool) (s : State) : (removeOverrides p s).command = s.command := by
  simp only [removeOverrides]
@[simp] theorem removeOverrides_freeCount (p : Channel → Bool) (s : State) : (removeOverrides p s).freeCount = s.freeCount := by
  simp only [removeOverrides]

@[simp] theorem reverseLoss_pending (i : StreamId) (s : State) : (reverseLoss i s).pending = s.pending := by
  simp only [reverseLoss, reexamine, removeOverrides]
@[simp] theorem reverseLoss_ring (i : StreamId) (s : State) : (reverseLoss i s).ring = s.ring := by
  simp only [reverseLoss, reexamine, removeOverrides]
@[simp] theorem reverseLoss_tickCount (i : StreamId) (s : State) : (reverseLoss i s).tickCount = s.tickCount := by
  simp only [reverseLoss, reexamine, removeOverrides]
@[simp] theorem reverseLoss_streams (i : StreamId) (s : State) : (reverseLoss i s).streams = s.streams := by
  simp only [reverseLoss, reexamine, removeOverrides]
@[simp] theorem reverseLoss_active (i : StreamId) (s : State) : (reverseLoss i s).active = s.active := by
  simp only [reverseLoss, reexamine, removeOverrides]
@[simp] theorem reverseLoss_staging (i : StreamId) (s : State) : (reverseLoss i s).staging = s.staging := by
  simp only [reverseLoss, reexamine, removeOverrides]
@[simp] theorem reverseLoss_patch (i : StreamId) (s : State) : (reverseLoss i s).patch = s.patch := by
  simp only [reverseLoss, reexamine, removeOverrides]
@[simp] theorem reverseLoss_ramps (i : StreamId) (s : State) : (reverseLoss i s).ramps = s.ramps := by
  simp only [reverseLoss, reexamine, removeOverrides]
@[simp] theorem reverseLoss_output (i : StreamId) (s : State) : (reverseLoss i s).output = s.output := by
  simp only [reverseLoss, reexamine, removeOverrides]
@[simp] theorem reverseLoss_audit (i : StreamId) (s : State) : (reverseLoss i s).audit = s.audit := by
  simp only [reverseLoss, reexamine, removeOverrides]
@[simp] theorem reverseLoss_command (i : StreamId) (s : State) : (reverseLoss i s).command = s.command := by
  simp only [reverseLoss, reexamine, removeOverrides]
@[simp] theorem reverseLoss_freeCount (i : StreamId) (s : State) : (reverseLoss i s).freeCount = s.freeCount := by
  simp only [reverseLoss, reexamine, removeOverrides]

@[simp] theorem applyLossScene_pending (i : StreamId) (n : Fin 8) (s : State) : (applyLossScene i n s).pending = s.pending := by
  simp only [applyLossScene]
@[simp] theorem applyLossScene_ring (i : StreamId) (n : Fin 8) (s : State) : (applyLossScene i n s).ring = s.ring := by
  simp only [applyLossScene]
@[simp] theorem applyLossScene_tickCount (i : StreamId) (n : Fin 8) (s : State) : (applyLossScene i n s).tickCount = s.tickCount := by
  simp only [applyLossScene]
@[simp] theorem applyLossScene_streams (i : StreamId) (n : Fin 8) (s : State) : (applyLossScene i n s).streams = s.streams := by
  simp only [applyLossScene]
@[simp] theorem applyLossScene_active (i : StreamId) (n : Fin 8) (s : State) : (applyLossScene i n s).active = s.active := by
  simp only [applyLossScene]
@[simp] theorem applyLossScene_staging (i : StreamId) (n : Fin 8) (s : State) : (applyLossScene i n s).staging = s.staging := by
  simp only [applyLossScene]
@[simp] theorem applyLossScene_patch (i : StreamId) (n : Fin 8) (s : State) : (applyLossScene i n s).patch = s.patch := by
  simp only [applyLossScene]
@[simp] theorem applyLossScene_ramps (i : StreamId) (n : Fin 8) (s : State) : (applyLossScene i n s).ramps = s.ramps := by
  simp only [applyLossScene]
@[simp] theorem applyLossScene_output (i : StreamId) (n : Fin 8) (s : State) : (applyLossScene i n s).output = s.output := by
  simp only [applyLossScene]
@[simp] theorem applyLossScene_audit (i : StreamId) (n : Fin 8) (s : State) : (applyLossScene i n s).audit = s.audit := by
  simp only [applyLossScene]
@[simp] theorem applyLossScene_command (i : StreamId) (n : Fin 8) (s : State) : (applyLossScene i n s).command = s.command := by
  simp only [applyLossScene]
@[simp] theorem applyLossScene_freeCount (i : StreamId) (n : Fin 8) (s : State) : (applyLossScene i n s).freeCount = s.freeCount := by
  simp only [applyLossScene]

@[simp] theorem recompute_pending (p : Channel → Bool) (s : State) : (recompute p s).pending = s.pending := by
  simp only [recompute]
@[simp] theorem recompute_ring (p : Channel → Bool) (s : State) : (recompute p s).ring = s.ring := by
  simp only [recompute]
@[simp] theorem recompute_tickCount (p : Channel → Bool) (s : State) : (recompute p s).tickCount = s.tickCount := by
  simp only [recompute]
@[simp] theorem recompute_streams (p : Channel → Bool) (s : State) : (recompute p s).streams = s.streams := by
  simp only [recompute]
@[simp] theorem recompute_active (p : Channel → Bool) (s : State) : (recompute p s).active = s.active := by
  simp only [recompute]
@[simp] theorem recompute_staging (p : Channel → Bool) (s : State) : (recompute p s).staging = s.staging := by
  simp only [recompute]
@[simp] theorem recompute_patch (p : Channel → Bool) (s : State) : (recompute p s).patch = s.patch := by
  simp only [recompute]
@[simp] theorem recompute_output (p : Channel → Bool) (s : State) : (recompute p s).output = s.output := by
  simp only [recompute]
@[simp] theorem recompute_audit (p : Channel → Bool) (s : State) : (recompute p s).audit = s.audit := by
  simp only [recompute]
@[simp] theorem recompute_command (p : Channel → Bool) (s : State) : (recompute p s).command = s.command := by
  simp only [recompute]
@[simp] theorem recompute_freeCount (p : Channel → Bool) (s : State) : (recompute p s).freeCount = s.freeCount := by
  simp only [recompute]

@[simp] theorem stepRamps_pending (s : State) : (stepRamps s).pending = s.pending := by
  simp only [stepRamps]
@[simp] theorem stepRamps_ring (s : State) : (stepRamps s).ring = s.ring := by
  simp only [stepRamps]
@[simp] theorem stepRamps_tickCount (s : State) : (stepRamps s).tickCount = s.tickCount := by
  simp only [stepRamps]
@[simp] theorem stepRamps_streams (s : State) : (stepRamps s).streams = s.streams := by
  simp only [stepRamps]
@[simp] theorem stepRamps_active (s : State) : (stepRamps s).active = s.active := by
  simp only [stepRamps]
@[simp] theorem stepRamps_staging (s : State) : (stepRamps s).staging = s.staging := by
  simp only [stepRamps]
@[simp] theorem stepRamps_patch (s : State) : (stepRamps s).patch = s.patch := by
  simp only [stepRamps]
@[simp] theorem stepRamps_target (s : State) : (stepRamps s).target = s.target := by
  simp only [stepRamps]
@[simp] theorem stepRamps_output (s : State) : (stepRamps s).output = s.output := by
  simp only [stepRamps]
@[simp] theorem stepRamps_audit (s : State) : (stepRamps s).audit = s.audit := by
  simp only [stepRamps]
@[simp] theorem stepRamps_command (s : State) : (stepRamps s).command = s.command := by
  simp only [stepRamps]
@[simp] theorem stepRamps_freeCount (s : State) : (stepRamps s).freeCount = s.freeCount := by
  simp only [stepRamps]

@[simp] theorem formOutputs_pending (s : State) : (formOutputs s).pending = s.pending := by
  simp only [formOutputs]
@[simp] theorem formOutputs_ring (s : State) : (formOutputs s).ring = s.ring := by
  simp only [formOutputs]
@[simp] theorem formOutputs_tickCount (s : State) : (formOutputs s).tickCount = s.tickCount := by
  simp only [formOutputs]
@[simp] theorem formOutputs_streams (s : State) : (formOutputs s).streams = s.streams := by
  simp only [formOutputs]
@[simp] theorem formOutputs_active (s : State) : (formOutputs s).active = s.active := by
  simp only [formOutputs]
@[simp] theorem formOutputs_staging (s : State) : (formOutputs s).staging = s.staging := by
  simp only [formOutputs]
@[simp] theorem formOutputs_patch (s : State) : (formOutputs s).patch = s.patch := by
  simp only [formOutputs]
@[simp] theorem formOutputs_target (s : State) : (formOutputs s).target = s.target := by
  simp only [formOutputs]
@[simp] theorem formOutputs_ramps (s : State) : (formOutputs s).ramps = s.ramps := by
  simp only [formOutputs]
@[simp] theorem formOutputs_audit (s : State) : (formOutputs s).audit = s.audit := by
  simp only [formOutputs]
@[simp] theorem formOutputs_command (s : State) : (formOutputs s).command = s.command := by
  simp only [formOutputs]
@[simp] theorem formOutputs_freeCount (s : State) : (formOutputs s).freeCount = s.freeCount := by
  simp only [formOutputs]

@[simp] theorem beginPeriod_pending (s : State) : (beginPeriod s).pending = s.pending := by
  simp only [beginPeriod]
@[simp] theorem beginPeriod_ring (s : State) : (beginPeriod s).ring = s.ring := by
  simp only [beginPeriod]
@[simp] theorem beginPeriod_tickCount (s : State) : (beginPeriod s).tickCount = s.tickCount := by
  simp only [beginPeriod]
@[simp] theorem beginPeriod_streams (s : State) : (beginPeriod s).streams = s.streams := by
  simp only [beginPeriod]
@[simp] theorem beginPeriod_active (s : State) : (beginPeriod s).active = s.active := by
  simp only [beginPeriod]
@[simp] theorem beginPeriod_staging (s : State) : (beginPeriod s).staging = s.staging := by
  simp only [beginPeriod]
@[simp] theorem beginPeriod_patch (s : State) : (beginPeriod s).patch = s.patch := by
  simp only [beginPeriod]
@[simp] theorem beginPeriod_target (s : State) : (beginPeriod s).target = s.target := by
  simp only [beginPeriod]
@[simp] theorem beginPeriod_ramps (s : State) : (beginPeriod s).ramps = s.ramps := by
  simp only [beginPeriod]
@[simp] theorem beginPeriod_audit (s : State) : (beginPeriod s).audit = s.audit := by
  simp only [beginPeriod]
@[simp] theorem beginPeriod_command (s : State) : (beginPeriod s).command = s.command := by
  simp only [beginPeriod]
@[simp] theorem beginPeriod_freeCount (s : State) : (beginPeriod s).freeCount = s.freeCount := by
  simp only [beginPeriod]

@[simp] theorem formReports_pending (peaks : Tab 24 Nat) (s : State) : (formReports peaks s).pending = s.pending := by
  simp only [formReports]
@[simp] theorem formReports_ring (peaks : Tab 24 Nat) (s : State) : (formReports peaks s).ring = s.ring := by
  simp only [formReports]
@[simp] theorem formReports_tickCount (peaks : Tab 24 Nat) (s : State) : (formReports peaks s).tickCount = s.tickCount := by
  simp only [formReports]
@[simp] theorem formReports_streams (peaks : Tab 24 Nat) (s : State) : (formReports peaks s).streams = s.streams := by
  simp only [formReports]
@[simp] theorem formReports_active (peaks : Tab 24 Nat) (s : State) : (formReports peaks s).active = s.active := by
  simp only [formReports]
@[simp] theorem formReports_staging (peaks : Tab 24 Nat) (s : State) : (formReports peaks s).staging = s.staging := by
  simp only [formReports]
@[simp] theorem formReports_patch (peaks : Tab 24 Nat) (s : State) : (formReports peaks s).patch = s.patch := by
  simp only [formReports]
@[simp] theorem formReports_target (peaks : Tab 24 Nat) (s : State) : (formReports peaks s).target = s.target := by
  simp only [formReports]
@[simp] theorem formReports_ramps (peaks : Tab 24 Nat) (s : State) : (formReports peaks s).ramps = s.ramps := by
  simp only [formReports]
@[simp] theorem formReports_audit (peaks : Tab 24 Nat) (s : State) : (formReports peaks s).audit = s.audit := by
  simp only [formReports]
@[simp] theorem formReports_command (peaks : Tab 24 Nat) (s : State) : (formReports peaks s).command = s.command := by
  simp only [formReports]
@[simp] theorem formReports_freeCount (peaks : Tab 24 Nat) (s : State) : (formReports peaks s).freeCount = s.freeCount := by
  simp only [formReports]

@[simp] theorem stepMonitors_pending (s : State) : (stepMonitors s).pending = s.pending := by
  simp only [stepMonitors]
@[simp] theorem stepMonitors_ring (s : State) : (stepMonitors s).ring = s.ring := by
  simp only [stepMonitors]
@[simp] theorem stepMonitors_tickCount (s : State) : (stepMonitors s).tickCount = s.tickCount := by
  simp only [stepMonitors]
@[simp] theorem stepMonitors_streams (s : State) : (stepMonitors s).streams = s.streams := by
  simp only [stepMonitors]
@[simp] theorem stepMonitors_active (s : State) : (stepMonitors s).active = s.active := by
  simp only [stepMonitors]
@[simp] theorem stepMonitors_staging (s : State) : (stepMonitors s).staging = s.staging := by
  simp only [stepMonitors]
@[simp] theorem stepMonitors_patch (s : State) : (stepMonitors s).patch = s.patch := by
  simp only [stepMonitors]
@[simp] theorem stepMonitors_target (s : State) : (stepMonitors s).target = s.target := by
  simp only [stepMonitors]
@[simp] theorem stepMonitors_ramps (s : State) : (stepMonitors s).ramps = s.ramps := by
  simp only [stepMonitors]
@[simp] theorem stepMonitors_audit (s : State) : (stepMonitors s).audit = s.audit := by
  simp only [stepMonitors]
@[simp] theorem stepMonitors_command (s : State) : (stepMonitors s).command = s.command := by
  simp only [stepMonitors]
@[simp] theorem stepMonitors_freeCount (s : State) : (stepMonitors s).freeCount = s.freeCount := by
  simp only [stepMonitors]

@[simp] theorem commit_pending (s : State) : (commit s).pending = s.pending := by
  simp only [commit, formOutputs, recompute]
@[simp] theorem commit_ring (s : State) : (commit s).ring = s.ring := by
  simp only [commit, formOutputs, recompute]
@[simp] theorem commit_tickCount (s : State) : (commit s).tickCount = s.tickCount := by
  simp only [commit, formOutputs, recompute]
@[simp] theorem commit_streams (s : State) : (commit s).streams = s.streams := by
  simp only [commit, formOutputs, recompute]
@[simp] theorem commit_audit (s : State) : (commit s).audit = s.audit := by
  simp only [commit, formOutputs, recompute]
@[simp] theorem commit_command (s : State) : (commit s).command = s.command := by
  simp only [commit, formOutputs, recompute]
@[simp] theorem commit_freeCount (s : State) : (commit s).freeCount = s.freeCount := by
  simp only [commit, formOutputs, recompute]

@[simp] theorem resetBlocks_pending (s : State) : (resetBlocks s).pending = s.pending := by
  simp only [resetBlocks]
@[simp] theorem resetBlocks_ring (s : State) : (resetBlocks s).ring = s.ring := by
  simp only [resetBlocks]
@[simp] theorem resetBlocks_tickCount (s : State) : (resetBlocks s).tickCount = s.tickCount := by
  simp only [resetBlocks]
@[simp] theorem resetBlocks_command (s : State) : (resetBlocks s).command = s.command := by
  simp only [resetBlocks]
@[simp] theorem resetBlocks_freeCount (s : State) : (resetBlocks s).freeCount = s.freeCount := by
  simp only [resetBlocks]

@[simp] theorem takeNext_pending (l : List Channel) (run : AuditRun) (r : Tab 24 AuditResult) (s : State) : (takeNext l run r s).pending = s.pending := by
  simp only [takeNext]
@[simp] theorem takeNext_ring (l : List Channel) (run : AuditRun) (r : Tab 24 AuditResult) (s : State) : (takeNext l run r s).ring = s.ring := by
  simp only [takeNext]
@[simp] theorem takeNext_tickCount (l : List Channel) (run : AuditRun) (r : Tab 24 AuditResult) (s : State) : (takeNext l run r s).tickCount = s.tickCount := by
  simp only [takeNext]
@[simp] theorem takeNext_streams (l : List Channel) (run : AuditRun) (r : Tab 24 AuditResult) (s : State) : (takeNext l run r s).streams = s.streams := by
  simp only [takeNext]
@[simp] theorem takeNext_active (l : List Channel) (run : AuditRun) (r : Tab 24 AuditResult) (s : State) : (takeNext l run r s).active = s.active := by
  simp only [takeNext]
@[simp] theorem takeNext_staging (l : List Channel) (run : AuditRun) (r : Tab 24 AuditResult) (s : State) : (takeNext l run r s).staging = s.staging := by
  simp only [takeNext]
@[simp] theorem takeNext_patch (l : List Channel) (run : AuditRun) (r : Tab 24 AuditResult) (s : State) : (takeNext l run r s).patch = s.patch := by
  simp only [takeNext]
@[simp] theorem takeNext_target (l : List Channel) (run : AuditRun) (r : Tab 24 AuditResult) (s : State) : (takeNext l run r s).target = s.target := by
  simp only [takeNext]
@[simp] theorem takeNext_ramps (l : List Channel) (run : AuditRun) (r : Tab 24 AuditResult) (s : State) : (takeNext l run r s).ramps = s.ramps := by
  simp only [takeNext]
@[simp] theorem takeNext_output (l : List Channel) (run : AuditRun) (r : Tab 24 AuditResult) (s : State) : (takeNext l run r s).output = s.output := by
  simp only [takeNext]
@[simp] theorem takeNext_command (l : List Channel) (run : AuditRun) (r : Tab 24 AuditResult) (s : State) : (takeNext l run r s).command = s.command := by
  simp only [takeNext]
@[simp] theorem takeNext_freeCount (l : List Channel) (run : AuditRun) (r : Tab 24 AuditResult) (s : State) : (takeNext l run r s).freeCount = s.freeCount := by
  simp only [takeNext]

@[simp] theorem beginAudit_pending (m : Mask) (l : Level) (d : Nat) (s : State) : (beginAudit m l d s).pending = s.pending := by
  simp only [beginAudit, takeNext]
@[simp] theorem beginAudit_ring (m : Mask) (l : Level) (d : Nat) (s : State) : (beginAudit m l d s).ring = s.ring := by
  simp only [beginAudit, takeNext]
@[simp] theorem beginAudit_tickCount (m : Mask) (l : Level) (d : Nat) (s : State) : (beginAudit m l d s).tickCount = s.tickCount := by
  simp only [beginAudit, takeNext]
@[simp] theorem beginAudit_streams (m : Mask) (l : Level) (d : Nat) (s : State) : (beginAudit m l d s).streams = s.streams := by
  simp only [beginAudit, takeNext]
@[simp] theorem beginAudit_active (m : Mask) (l : Level) (d : Nat) (s : State) : (beginAudit m l d s).active = s.active := by
  simp only [beginAudit, takeNext]
@[simp] theorem beginAudit_staging (m : Mask) (l : Level) (d : Nat) (s : State) : (beginAudit m l d s).staging = s.staging := by
  simp only [beginAudit, takeNext]
@[simp] theorem beginAudit_patch (m : Mask) (l : Level) (d : Nat) (s : State) : (beginAudit m l d s).patch = s.patch := by
  simp only [beginAudit, takeNext]
@[simp] theorem beginAudit_target (m : Mask) (l : Level) (d : Nat) (s : State) : (beginAudit m l d s).target = s.target := by
  simp only [beginAudit, takeNext]
@[simp] theorem beginAudit_ramps (m : Mask) (l : Level) (d : Nat) (s : State) : (beginAudit m l d s).ramps = s.ramps := by
  simp only [beginAudit, takeNext]
@[simp] theorem beginAudit_output (m : Mask) (l : Level) (d : Nat) (s : State) : (beginAudit m l d s).output = s.output := by
  simp only [beginAudit, takeNext]
@[simp] theorem beginAudit_command (m : Mask) (l : Level) (d : Nat) (s : State) : (beginAudit m l d s).command = s.command := by
  simp only [beginAudit, takeNext]
@[simp] theorem beginAudit_freeCount (m : Mask) (l : Level) (d : Nat) (s : State) : (beginAudit m l d s).freeCount = s.freeCount := by
  simp only [beginAudit, takeNext]

@[simp] theorem classifyAndTake_pending (run : AuditRun) (c : Channel) (s : State) : (classifyAndTake run c s).pending = s.pending := by
  simp only [classifyAndTake, takeNext]
@[simp] theorem classifyAndTake_ring (run : AuditRun) (c : Channel) (s : State) : (classifyAndTake run c s).ring = s.ring := by
  simp only [classifyAndTake, takeNext]
@[simp] theorem classifyAndTake_tickCount (run : AuditRun) (c : Channel) (s : State) : (classifyAndTake run c s).tickCount = s.tickCount := by
  simp only [classifyAndTake, takeNext]
@[simp] theorem classifyAndTake_streams (run : AuditRun) (c : Channel) (s : State) : (classifyAndTake run c s).streams = s.streams := by
  simp only [classifyAndTake, takeNext]
@[simp] theorem classifyAndTake_active (run : AuditRun) (c : Channel) (s : State) : (classifyAndTake run c s).active = s.active := by
  simp only [classifyAndTake, takeNext]
@[simp] theorem classifyAndTake_staging (run : AuditRun) (c : Channel) (s : State) : (classifyAndTake run c s).staging = s.staging := by
  simp only [classifyAndTake, takeNext]
@[simp] theorem classifyAndTake_patch (run : AuditRun) (c : Channel) (s : State) : (classifyAndTake run c s).patch = s.patch := by
  simp only [classifyAndTake, takeNext]
@[simp] theorem classifyAndTake_target (run : AuditRun) (c : Channel) (s : State) : (classifyAndTake run c s).target = s.target := by
  simp only [classifyAndTake, takeNext]
@[simp] theorem classifyAndTake_ramps (run : AuditRun) (c : Channel) (s : State) : (classifyAndTake run c s).ramps = s.ramps := by
  simp only [classifyAndTake, takeNext]
@[simp] theorem classifyAndTake_output (run : AuditRun) (c : Channel) (s : State) : (classifyAndTake run c s).output = s.output := by
  simp only [classifyAndTake, takeNext]
@[simp] theorem classifyAndTake_command (run : AuditRun) (c : Channel) (s : State) : (classifyAndTake run c s).command = s.command := by
  simp only [classifyAndTake, takeNext]
@[simp] theorem classifyAndTake_freeCount (run : AuditRun) (c : Channel) (s : State) : (classifyAndTake run c s).freeCount = s.freeCount := by
  simp only [classifyAndTake, takeNext]

@[simp] theorem reply_pending (q k : Byte) (st : Status) (r : ResultCode) (d : List Byte) (s : State) : (reply q k st r d s).pending = s.pending := by
  simp only [reply, addReply]
@[simp] theorem reply_ring (q k : Byte) (st : Status) (r : ResultCode) (d : List Byte) (s : State) : (reply q k st r d s).ring = s.ring := by
  simp only [reply, addReply]
@[simp] theorem reply_tickCount (q k : Byte) (st : Status) (r : ResultCode) (d : List Byte) (s : State) : (reply q k st r d s).tickCount = s.tickCount := by
  simp only [reply, addReply]
@[simp] theorem reply_streams (q k : Byte) (st : Status) (r : ResultCode) (d : List Byte) (s : State) : (reply q k st r d s).streams = s.streams := by
  simp only [reply, addReply]
@[simp] theorem reply_active (q k : Byte) (st : Status) (r : ResultCode) (d : List Byte) (s : State) : (reply q k st r d s).active = s.active := by
  simp only [reply, addReply]
@[simp] theorem reply_staging (q k : Byte) (st : Status) (r : ResultCode) (d : List Byte) (s : State) : (reply q k st r d s).staging = s.staging := by
  simp only [reply, addReply]
@[simp] theorem reply_patch (q k : Byte) (st : Status) (r : ResultCode) (d : List Byte) (s : State) : (reply q k st r d s).patch = s.patch := by
  simp only [reply, addReply]
@[simp] theorem reply_target (q k : Byte) (st : Status) (r : ResultCode) (d : List Byte) (s : State) : (reply q k st r d s).target = s.target := by
  simp only [reply, addReply]
@[simp] theorem reply_ramps (q k : Byte) (st : Status) (r : ResultCode) (d : List Byte) (s : State) : (reply q k st r d s).ramps = s.ramps := by
  simp only [reply, addReply]
@[simp] theorem reply_output (q k : Byte) (st : Status) (r : ResultCode) (d : List Byte) (s : State) : (reply q k st r d s).output = s.output := by
  simp only [reply, addReply]
@[simp] theorem reply_audit (q k : Byte) (st : Status) (r : ResultCode) (d : List Byte) (s : State) : (reply q k st r d s).audit = s.audit := by
  simp only [reply, addReply]
@[simp] theorem reply_freeCount (q k : Byte) (st : Status) (r : ResultCode) (d : List Byte) (s : State) : (reply q k st r d s).freeCount = s.freeCount := by
  simp only [reply, addReply]

@[simp] theorem send_pending (x : LineSym) (s : State) : (send x s).pending = s.pending := by
  simp only [send]
@[simp] theorem send_tickCount (x : LineSym) (s : State) : (send x s).tickCount = s.tickCount := by
  simp only [send]
@[simp] theorem send_streams (x : LineSym) (s : State) : (send x s).streams = s.streams := by
  simp only [send]
@[simp] theorem send_active (x : LineSym) (s : State) : (send x s).active = s.active := by
  simp only [send]
@[simp] theorem send_staging (x : LineSym) (s : State) : (send x s).staging = s.staging := by
  simp only [send]
@[simp] theorem send_patch (x : LineSym) (s : State) : (send x s).patch = s.patch := by
  simp only [send]
@[simp] theorem send_target (x : LineSym) (s : State) : (send x s).target = s.target := by
  simp only [send]
@[simp] theorem send_ramps (x : LineSym) (s : State) : (send x s).ramps = s.ramps := by
  simp only [send]
@[simp] theorem send_output (x : LineSym) (s : State) : (send x s).output = s.output := by
  simp only [send]
@[simp] theorem send_audit (x : LineSym) (s : State) : (send x s).audit = s.audit := by
  simp only [send]
@[simp] theorem send_command (x : LineSym) (s : State) : (send x s).command = s.command := by
  simp only [send]
@[simp] theorem send_freeCount (x : LineSym) (s : State) : (send x s).freeCount = s.freeCount := by
  simp only [send]

@[simp] theorem clearOut_pending (s : State) : (clearOut s).pending = s.pending := by
  simp only [clearOut]
@[simp] theorem clearOut_tickCount (s : State) : (clearOut s).tickCount = s.tickCount := by
  simp only [clearOut]
@[simp] theorem clearOut_streams (s : State) : (clearOut s).streams = s.streams := by
  simp only [clearOut]
@[simp] theorem clearOut_active (s : State) : (clearOut s).active = s.active := by
  simp only [clearOut]
@[simp] theorem clearOut_staging (s : State) : (clearOut s).staging = s.staging := by
  simp only [clearOut]
@[simp] theorem clearOut_patch (s : State) : (clearOut s).patch = s.patch := by
  simp only [clearOut]
@[simp] theorem clearOut_target (s : State) : (clearOut s).target = s.target := by
  simp only [clearOut]
@[simp] theorem clearOut_ramps (s : State) : (clearOut s).ramps = s.ramps := by
  simp only [clearOut]
@[simp] theorem holdMark_freeCount (d : Nat) (s : State) : (holdMark d s).freeCount = s.freeCount + 1 := rfl
@[simp] theorem clearOut_output (s : State) : (clearOut s).output = s.output := by
  simp only [clearOut]
@[simp] theorem clearOut_audit (s : State) : (clearOut s).audit = s.audit := by
  simp only [clearOut]
@[simp] theorem clearOut_command (s : State) : (clearOut s).command = s.command := by
  simp only [clearOut]
@[simp] theorem clearOut_freeCount (s : State) : (clearOut s).freeCount = s.freeCount := by
  simp only [clearOut]

@[simp] theorem enterFrame_pending (s : State) : (enterFrame s).pending = s.pending := by
  simp only [enterFrame]
@[simp] theorem enterFrame_tickCount (s : State) : (enterFrame s).tickCount = s.tickCount := by
  simp only [enterFrame]
@[simp] theorem enterFrame_streams (s : State) : (enterFrame s).streams = s.streams := by
  simp only [enterFrame]
@[simp] theorem enterFrame_active (s : State) : (enterFrame s).active = s.active := by
  simp only [enterFrame]
@[simp] theorem enterFrame_staging (s : State) : (enterFrame s).staging = s.staging := by
  simp only [enterFrame]
@[simp] theorem enterFrame_patch (s : State) : (enterFrame s).patch = s.patch := by
  simp only [enterFrame]
@[simp] theorem enterFrame_target (s : State) : (enterFrame s).target = s.target := by
  simp only [enterFrame]
@[simp] theorem enterFrame_ramps (s : State) : (enterFrame s).ramps = s.ramps := by
  simp only [enterFrame]
@[simp] theorem enterFrame_output (s : State) : (enterFrame s).output = s.output := by
  simp only [enterFrame]
@[simp] theorem enterFrame_audit (s : State) : (enterFrame s).audit = s.audit := by
  simp only [enterFrame]
@[simp] theorem enterFrame_command (s : State) : (enterFrame s).command = s.command := by
  simp only [enterFrame]
@[simp] theorem enterFrame_freeCount (s : State) : (enterFrame s).freeCount = s.freeCount := by
  simp only [enterFrame]

@[simp] theorem endHold_pending (s : State) : (endHold s).pending = s.pending := by
  simp only [endHold]
@[simp] theorem endHold_tickCount (s : State) : (endHold s).tickCount = s.tickCount := by
  simp only [endHold]
@[simp] theorem endHold_streams (s : State) : (endHold s).streams = s.streams := by
  simp only [endHold]
@[simp] theorem endHold_active (s : State) : (endHold s).active = s.active := by
  simp only [endHold]
@[simp] theorem endHold_staging (s : State) : (endHold s).staging = s.staging := by
  simp only [endHold]
@[simp] theorem endHold_patch (s : State) : (endHold s).patch = s.patch := by
  simp only [endHold]
@[simp] theorem endHold_target (s : State) : (endHold s).target = s.target := by
  simp only [endHold]
@[simp] theorem endHold_ramps (s : State) : (endHold s).ramps = s.ramps := by
  simp only [endHold]
@[simp] theorem endHold_output (s : State) : (endHold s).output = s.output := by
  simp only [endHold]
@[simp] theorem endHold_audit (s : State) : (endHold s).audit = s.audit := by
  simp only [endHold]
@[simp] theorem endHold_command (s : State) : (endHold s).command = s.command := by
  simp only [endHold]
@[simp] theorem endHold_freeCount (s : State) : (endHold s).freeCount = s.freeCount := by
  simp only [endHold]
@[simp] theorem endHold_ring_address (s : State) : (endHold s).ring.address = s.ring.address := by
  simp only [endHold]
@[simp] theorem endHold_ring_supplyOk (s : State) : (endHold s).ring.supplyOk = s.ring.supplyOk := by
  simp only [endHold]
@[simp] theorem endHold_ring_resetnHigh (s : State) : (endHold s).ring.resetnHigh = s.ring.resetnHigh := by
  simp only [endHold]
@[simp] theorem endHold_ring_bypass (s : State) : (endHold s).ring.bypass = s.ring.bypass := by
  simp only [endHold]
@[simp] theorem endHold_ring_markSeen (s : State) : (endHold s).ring.markSeen = s.ring.markSeen := by
  simp only [endHold]
@[simp] theorem endHold_ring_rx (s : State) : (endHold s).ring.rx = s.ring.rx := by
  simp only [endHold]
@[simp] theorem endHold_ring_byteCount (s : State) : (endHold s).ring.byteCount = s.ring.byteCount := by
  simp only [endHold]
@[simp] theorem endHold_ring_kind (s : State) : (endHold s).ring.kind = s.ring.kind := by
  simp only [endHold]
@[simp] theorem endHold_ring_length (s : State) : (endHold s).ring.length = s.ring.length := by
  simp only [endHold]
@[simp] theorem endHold_ring_body (s : State) : (endHold s).ring.body = s.ring.body := by
  simp only [endHold]
@[simp] theorem endHold_ring_crcHigh (s : State) : (endHold s).ring.crcHigh = s.ring.crcHigh := by
  simp only [endHold]
@[simp] theorem endHold_ring_crcIn (s : State) : (endHold s).ring.crcIn = s.ring.crcIn := by
  simp only [endHold]
@[simp] theorem endHold_ring_crcOut (s : State) : (endHold s).ring.crcOut = s.ring.crcOut := by
  simp only [endHold]
@[simp] theorem endHold_ring_plan (s : State) : (endHold s).ring.plan = s.ring.plan := by
  simp only [endHold]
@[simp] theorem endHold_ring_out (s : State) : (endHold s).ring.out = s.ring.out := by
  simp only [endHold]
@[simp] theorem endHold_holdLeft (s : State) : (endHold s).ring.holdLeft = 0 := by
  simp only [endHold]

@[simp] theorem holdMark_pending (d : Nat) (s : State) : (holdMark d s).pending = s.pending := by
  simp only [holdMark]
@[simp] theorem holdMark_tickCount (d : Nat) (s : State) : (holdMark d s).tickCount = s.tickCount := by
  simp only [holdMark]
@[simp] theorem holdMark_streams (d : Nat) (s : State) : (holdMark d s).streams = s.streams := by
  simp only [holdMark]
@[simp] theorem holdMark_active (d : Nat) (s : State) : (holdMark d s).active = s.active := by
  simp only [holdMark]
@[simp] theorem holdMark_staging (d : Nat) (s : State) : (holdMark d s).staging = s.staging := by
  simp only [holdMark]
@[simp] theorem holdMark_patch (d : Nat) (s : State) : (holdMark d s).patch = s.patch := by
  simp only [holdMark]
@[simp] theorem holdMark_target (d : Nat) (s : State) : (holdMark d s).target = s.target := by
  simp only [holdMark]
@[simp] theorem holdMark_ramps (d : Nat) (s : State) : (holdMark d s).ramps = s.ramps := by
  simp only [holdMark]
@[simp] theorem holdMark_output (d : Nat) (s : State) : (holdMark d s).output = s.output := by
  simp only [holdMark]
@[simp] theorem holdMark_audit (d : Nat) (s : State) : (holdMark d s).audit = s.audit := by
  simp only [holdMark]
@[simp] theorem holdMark_command (d : Nat) (s : State) : (holdMark d s).command = s.command := by
  simp only [holdMark]

@[simp] theorem holdMark_ring_address (d : Nat) (s : State) : (holdMark d s).ring.address = s.ring.address := by
  simp only [holdMark]
@[simp] theorem holdMark_ring_supplyOk (d : Nat) (s : State) : (holdMark d s).ring.supplyOk = s.ring.supplyOk := by
  simp only [holdMark]
@[simp] theorem holdMark_ring_resetnHigh (d : Nat) (s : State) : (holdMark d s).ring.resetnHigh = s.ring.resetnHigh := by
  simp only [holdMark]
@[simp] theorem holdMark_ring_bypass (d : Nat) (s : State) : (holdMark d s).ring.bypass = s.ring.bypass := by
  simp only [holdMark]
@[simp] theorem holdMark_ring_markSeen (d : Nat) (s : State) : (holdMark d s).ring.markSeen = s.ring.markSeen := by
  simp only [holdMark]
@[simp] theorem holdMark_ring_rx (d : Nat) (s : State) : (holdMark d s).ring.rx = s.ring.rx := by
  simp only [holdMark]
@[simp] theorem holdMark_ring_byteCount (d : Nat) (s : State) : (holdMark d s).ring.byteCount = s.ring.byteCount := by
  simp only [holdMark]
@[simp] theorem holdMark_ring_kind (d : Nat) (s : State) : (holdMark d s).ring.kind = s.ring.kind := by
  simp only [holdMark]
@[simp] theorem holdMark_ring_length (d : Nat) (s : State) : (holdMark d s).ring.length = s.ring.length := by
  simp only [holdMark]
@[simp] theorem holdMark_ring_body (d : Nat) (s : State) : (holdMark d s).ring.body = s.ring.body := by
  simp only [holdMark]
@[simp] theorem holdMark_ring_crcHigh (d : Nat) (s : State) : (holdMark d s).ring.crcHigh = s.ring.crcHigh := by
  simp only [holdMark]
@[simp] theorem holdMark_ring_crcIn (d : Nat) (s : State) : (holdMark d s).ring.crcIn = s.ring.crcIn := by
  simp only [holdMark]
@[simp] theorem holdMark_ring_crcOut (d : Nat) (s : State) : (holdMark d s).ring.crcOut = s.ring.crcOut := by
  simp only [holdMark]
@[simp] theorem holdMark_ring_plan (d : Nat) (s : State) : (holdMark d s).ring.plan = s.ring.plan := by
  simp only [holdMark]
@[simp] theorem send_ring_address (x : LineSym) (s : State) : (send x s).ring.address = s.ring.address := by
  simp only [send]
@[simp] theorem send_ring_supplyOk (x : LineSym) (s : State) : (send x s).ring.supplyOk = s.ring.supplyOk := by
  simp only [send]
@[simp] theorem send_ring_resetnHigh (x : LineSym) (s : State) : (send x s).ring.resetnHigh = s.ring.resetnHigh := by
  simp only [send]
@[simp] theorem send_ring_bypass (x : LineSym) (s : State) : (send x s).ring.bypass = s.ring.bypass := by
  simp only [send]
@[simp] theorem send_ring_markSeen (x : LineSym) (s : State) : (send x s).ring.markSeen = s.ring.markSeen := by
  simp only [send]
@[simp] theorem send_ring_rx (x : LineSym) (s : State) : (send x s).ring.rx = s.ring.rx := by
  simp only [send]
@[simp] theorem send_ring_byteCount (x : LineSym) (s : State) : (send x s).ring.byteCount = s.ring.byteCount := by
  simp only [send]
@[simp] theorem send_ring_kind (x : LineSym) (s : State) : (send x s).ring.kind = s.ring.kind := by
  simp only [send]
@[simp] theorem send_ring_length (x : LineSym) (s : State) : (send x s).ring.length = s.ring.length := by
  simp only [send]
@[simp] theorem send_ring_body (x : LineSym) (s : State) : (send x s).ring.body = s.ring.body := by
  simp only [send]
@[simp] theorem send_ring_crcHigh (x : LineSym) (s : State) : (send x s).ring.crcHigh = s.ring.crcHigh := by
  simp only [send]
@[simp] theorem send_ring_crcIn (x : LineSym) (s : State) : (send x s).ring.crcIn = s.ring.crcIn := by
  simp only [send]
@[simp] theorem send_ring_crcOut (x : LineSym) (s : State) : (send x s).ring.crcOut = s.ring.crcOut := by
  simp only [send]
@[simp] theorem send_ring_plan (x : LineSym) (s : State) : (send x s).ring.plan = s.ring.plan := by
  simp only [send]

@[simp] theorem clearOut_ring_address (s : State) : (clearOut s).ring.address = s.ring.address := by
  simp only [clearOut]
@[simp] theorem clearOut_ring_holdLeft (s : State) : (clearOut s).ring.holdLeft = s.ring.holdLeft := by
  simp only [clearOut]
@[simp] theorem clearOut_ring_supplyOk (s : State) : (clearOut s).ring.supplyOk = s.ring.supplyOk := by
  simp only [clearOut]
@[simp] theorem clearOut_ring_resetnHigh (s : State) : (clearOut s).ring.resetnHigh = s.ring.resetnHigh := by
  simp only [clearOut]
@[simp] theorem clearOut_ring_bypass (s : State) : (clearOut s).ring.bypass = s.ring.bypass := by
  simp only [clearOut]
@[simp] theorem clearOut_ring_markSeen (s : State) : (clearOut s).ring.markSeen = s.ring.markSeen := by
  simp only [clearOut]
@[simp] theorem clearOut_ring_rx (s : State) : (clearOut s).ring.rx = s.ring.rx := by
  simp only [clearOut]
@[simp] theorem clearOut_ring_byteCount (s : State) : (clearOut s).ring.byteCount = s.ring.byteCount := by
  simp only [clearOut]
@[simp] theorem clearOut_ring_kind (s : State) : (clearOut s).ring.kind = s.ring.kind := by
  simp only [clearOut]
@[simp] theorem clearOut_ring_length (s : State) : (clearOut s).ring.length = s.ring.length := by
  simp only [clearOut]
@[simp] theorem clearOut_ring_body (s : State) : (clearOut s).ring.body = s.ring.body := by
  simp only [clearOut]
@[simp] theorem clearOut_ring_crcHigh (s : State) : (clearOut s).ring.crcHigh = s.ring.crcHigh := by
  simp only [clearOut]
@[simp] theorem clearOut_ring_crcIn (s : State) : (clearOut s).ring.crcIn = s.ring.crcIn := by
  simp only [clearOut]
@[simp] theorem clearOut_ring_crcOut (s : State) : (clearOut s).ring.crcOut = s.ring.crcOut := by
  simp only [clearOut]
@[simp] theorem clearOut_ring_plan (s : State) : (clearOut s).ring.plan = s.ring.plan := by
  simp only [clearOut]

@[simp] theorem enterFrame_ring_address (s : State) : (enterFrame s).ring.address = s.ring.address := by
  simp only [enterFrame]
@[simp] theorem enterFrame_ring_holdLeft (s : State) : (enterFrame s).ring.holdLeft = s.ring.holdLeft := by
  simp only [enterFrame]
@[simp] theorem enterFrame_ring_supplyOk (s : State) : (enterFrame s).ring.supplyOk = s.ring.supplyOk := by
  simp only [enterFrame]
@[simp] theorem enterFrame_ring_resetnHigh (s : State) : (enterFrame s).ring.resetnHigh = s.ring.resetnHigh := by
  simp only [enterFrame]
@[simp] theorem enterFrame_ring_bypass (s : State) : (enterFrame s).ring.bypass = s.ring.bypass := by
  simp only [enterFrame]
@[simp] theorem enterFrame_ring_markSeen (s : State) : (enterFrame s).ring.markSeen = s.ring.markSeen := by
  simp only [enterFrame]
@[simp] theorem enterFrame_ring_kind (s : State) : (enterFrame s).ring.kind = s.ring.kind := by
  simp only [enterFrame]
@[simp] theorem enterFrame_ring_length (s : State) : (enterFrame s).ring.length = s.ring.length := by
  simp only [enterFrame]
@[simp] theorem enterFrame_ring_crcHigh (s : State) : (enterFrame s).ring.crcHigh = s.ring.crcHigh := by
  simp only [enterFrame]
@[simp] theorem enterFrame_ring_out (s : State) : (enterFrame s).ring.out = s.ring.out := by
  simp only [enterFrame]

@[simp] theorem recompute_target_overrides (p : Channel → Bool) (s : State) : (recompute p s).target.overrides = s.target.overrides := by
  simp only [recompute]

@[simp] theorem reverseLoss_target_targets (i : StreamId) (s : State) : (reverseLoss i s).target.targets = s.target.targets := by
  simp only [reverseLoss, reexamine, removeOverrides]

@[simp] theorem reexamine_target_targets (p : Channel → Bool) (s : State) : (reexamine p s).target.targets = s.target.targets := by
  simp only [reexamine]

@[simp] theorem removeOverrides_target_targets (p : Channel → Bool) (s : State) : (removeOverrides p s).target.targets = s.target.targets := by
  simp only [removeOverrides]

@[simp] theorem applyLossScene_target_targets (i : StreamId) (n : Fin 8) (s : State) : (applyLossScene i n s).target.targets = s.target.targets := by
  simp only [applyLossScene]

@[simp] theorem dropValues_patch_lastUpdated (i : StreamId) (s : State) : (dropValues i s).patch.lastUpdated = s.patch.lastUpdated := by
  simp only [dropValues]

@[simp] theorem formOutputs_output_switchOn (s : State) : (formOutputs s).output.switchOn = s.output.switchOn := by
  simp only [formOutputs]
@[simp] theorem formOutputs_output_ceiling (s : State) : (formOutputs s).output.ceiling = s.output.ceiling := by
  simp only [formOutputs]
@[simp] theorem formOutputs_output_thermal (s : State) : (formOutputs s).output.thermal = s.output.thermal := by
  simp only [formOutputs]
@[simp] theorem formOutputs_output_phases (s : State) : (formOutputs s).output.phases = s.output.phases := by
  simp only [formOutputs]
@[simp] theorem formOutputs_output_reports (s : State) : (formOutputs s).output.reports = s.output.reports := by
  simp only [formOutputs]
@[simp] theorem formOutputs_output_monitors (s : State) : (formOutputs s).output.monitors = s.output.monitors := by
  simp only [formOutputs]

@[simp] theorem beginPeriod_output_switchOn (s : State) : (beginPeriod s).output.switchOn = s.output.switchOn := by
  simp only [beginPeriod]
@[simp] theorem beginPeriod_output_ceiling (s : State) : (beginPeriod s).output.ceiling = s.output.ceiling := by
  simp only [beginPeriod]
@[simp] theorem beginPeriod_output_thermal (s : State) : (beginPeriod s).output.thermal = s.output.thermal := by
  simp only [beginPeriod]
@[simp] theorem beginPeriod_output_reports (s : State) : (beginPeriod s).output.reports = s.output.reports := by
  simp only [beginPeriod]
@[simp] theorem beginPeriod_output_monitors (s : State) : (beginPeriod s).output.monitors = s.output.monitors := by
  simp only [beginPeriod]

@[simp] theorem formReports_output_switchOn (peaks : Tab 24 Nat) (s : State) : (formReports peaks s).output.switchOn = s.output.switchOn := by
  simp only [formReports]
@[simp] theorem formReports_output_ceiling (peaks : Tab 24 Nat) (s : State) : (formReports peaks s).output.ceiling = s.output.ceiling := by
  simp only [formReports]
@[simp] theorem formReports_output_thermal (peaks : Tab 24 Nat) (s : State) : (formReports peaks s).output.thermal = s.output.thermal := by
  simp only [formReports]
@[simp] theorem formReports_output_levels (peaks : Tab 24 Nat) (s : State) : (formReports peaks s).output.levels = s.output.levels := by
  simp only [formReports]
@[simp] theorem formReports_output_phases (peaks : Tab 24 Nat) (s : State) : (formReports peaks s).output.phases = s.output.phases := by
  simp only [formReports]
@[simp] theorem formReports_output_driven (peaks : Tab 24 Nat) (s : State) : (formReports peaks s).output.driven = s.output.driven := by
  simp only [formReports]
@[simp] theorem formReports_output_tested (peaks : Tab 24 Nat) (s : State) : (formReports peaks s).output.tested = s.output.tested := by
  simp only [formReports]
@[simp] theorem formReports_output_monitors (peaks : Tab 24 Nat) (s : State) : (formReports peaks s).output.monitors = s.output.monitors := by
  simp only [formReports]

@[simp] theorem stepMonitors_output_switchOn (s : State) : (stepMonitors s).output.switchOn = s.output.switchOn := by
  simp only [stepMonitors]
@[simp] theorem stepMonitors_output_ceiling (s : State) : (stepMonitors s).output.ceiling = s.output.ceiling := by
  simp only [stepMonitors]
@[simp] theorem stepMonitors_output_thermal (s : State) : (stepMonitors s).output.thermal = s.output.thermal := by
  simp only [stepMonitors]
@[simp] theorem stepMonitors_output_levels (s : State) : (stepMonitors s).output.levels = s.output.levels := by
  simp only [stepMonitors]
@[simp] theorem stepMonitors_output_phases (s : State) : (stepMonitors s).output.phases = s.output.phases := by
  simp only [stepMonitors]
@[simp] theorem stepMonitors_output_driven (s : State) : (stepMonitors s).output.driven = s.output.driven := by
  simp only [stepMonitors]
@[simp] theorem stepMonitors_output_tested (s : State) : (stepMonitors s).output.tested = s.output.tested := by
  simp only [stepMonitors]
@[simp] theorem stepMonitors_output_reports (s : State) : (stepMonitors s).output.reports = s.output.reports := by
  simp only [stepMonitors]

@[simp] theorem commit_output_switchOn (s : State) : (commit s).output.switchOn = s.output.switchOn := by
  simp only [commit, formOutputs, recompute]
@[simp] theorem commit_output_ceiling (s : State) : (commit s).output.ceiling = s.output.ceiling := by
  simp only [commit, formOutputs, recompute]
@[simp] theorem commit_output_thermal (s : State) : (commit s).output.thermal = s.output.thermal := by
  simp only [commit, formOutputs, recompute]
@[simp] theorem commit_output_phases (s : State) : (commit s).output.phases = s.output.phases := by
  simp only [commit, formOutputs, recompute]
@[simp] theorem commit_output_reports (s : State) : (commit s).output.reports = s.output.reports := by
  simp only [commit, formOutputs, recompute]
@[simp] theorem commit_output_monitors (s : State) : (commit s).output.monitors = s.output.monitors := by
  simp only [commit, formOutputs, recompute]

@[simp] theorem reply_command_groups (q k : Byte) (st : Status) (r : ResultCode) (d : List Byte) (s : State) : (reply q k st r d s).command.groups = s.command.groups := by
  simp only [reply, addReply]
@[simp] theorem reply_command_running (q k : Byte) (st : Status) (r : ResultCode) (d : List Byte) (s : State) : (reply q k st r d s).command.running = s.command.running := by
  simp only [reply, addReply]
@[simp] theorem reply_command_queue (q k : Byte) (st : Status) (r : ResultCode) (d : List Byte) (s : State) : (reply q k st r d s).command.queue = s.command.queue := by
  simp only [reply, addReply]

/-! ### The values the updates write -/

@[simp] theorem send_out (x : LineSym) (s : State) :
    (send x s).ring.out = s.ring.out ++ afterHold s.ring.holdLeft x := rfl
@[simp] theorem send_holdLeft (x : LineSym) (s : State) :
    (send x s).ring.holdLeft = s.ring.holdLeft - symBits x := rfl
@[simp] theorem clearOut_out (s : State) : (clearOut s).ring.out = [] := by
  simp only [clearOut]
@[simp] theorem setStream_streams (i : StreamId) (r : StreamRecord) (s : State) :
    (setStream i r s).streams = s.streams.put i r := by
  simp only [setStream]
@[simp] theorem commit_active (s : State) : (commit s).active = s.staging.staged := by
  simp only [commit, formOutputs, recompute]
@[simp] theorem commit_staging (s : State) : (commit s).staging = { s.staging with state := .clean } := by
  simp only [commit, formOutputs, recompute]
@[simp] theorem commit_overrides (s : State) : (commit s).target.overrides = s.target.overrides := by
  simp only [commit, formOutputs, recompute]
@[simp] theorem commit_lastUpdated (s : State) : (commit s).patch.lastUpdated = s.patch.lastUpdated := by
  simp only [commit, formOutputs, recompute]
@[simp] theorem resetBlocks_output (s : State) : (resetBlocks s).output = OutputStage.reset s.output.thermal := by
  simp only [resetBlocks]
@[simp] theorem beginPeriod_phases (s : State) :
    (beginPeriod s).output.phases = Tab.of fun c => (s.active.config.get c).phase := by
  simp only [beginPeriod]

end Sys2Proof.Machine
end

