-- ==== Sys2Proof/Laws/Command.lean ====
section
/-! SUPPORT. The command unit and the audit, one lemma for what each operation can do. -/

namespace Sys2Proof.Machine

/-! ### The three collections -/

/-- Adding a record to the reply list, as R137 has it. -/
theorem addReply_eq (r : Record) (u : CommandUnit) : addReply r u = withReply u r := by
  unfold addReply withReply appended
  by_cases full : u.replies.length < 8
  · simp [full, Nat.not_le.mpr full]
  · simp [full, Nat.not_lt.mp full]

/-- The reply list never grows above 8 (R137). -/
theorem addReply_length (r : Record) (u : CommandUnit) (h : u.replies.length ≤ 8) :
    (addReply r u).replies.length ≤ 8 := by
  unfold addReply
  split <;> simp [List.length_tail] <;> omega

/-- A record is found exactly where one with the sequence number is held (R144). -/
theorem findRecord_isSome (u : CommandUnit) (seq : Byte) :
    isHeld u seq = true ↔ ∃ r ∈ heldRecords u, r.seq = seq := by
  simp only [isHeld, findRecord, heldRecords, List.find?_isSome, beq_iff_eq]

/-- A sequence number that is free is held by no record (R135). -/
theorem isHeld_of_free {u : CommandUnit} {seq : Byte} (h : SeqFree u seq) : isHeld u seq = false := by
  rw [← Bool.not_eq_true, findRecord_isSome]
  rintro ⟨r, held, same⟩
  exact h r held same

/-! ### Taking and executing a command -/

/-- What the taking of a command can be: ignored as a duplicate, executed with the draining of the queue, executed, queued, or
refused with QUEUE_FULL (R135, R138, R139, R141). -/
theorem takeCommand_cases (seq code : Byte) (params : List Byte) (s : State) :
    let s' := takeCommand seq code params s
    (isHeld s.command seq = true ∧ s' = s)
      ∨ (isHeld s.command seq = false ∧ isUrgent code = true ∧ s' = drainIfEnded s (execute seq code params s))
      ∨ (isHeld s.command seq = false ∧ isUrgent code = false
          ∧ (isNodeStatusRead code params = true ∨ s.command.running = none) ∧ s' = execute seq code params s)
      ∨ (isHeld s.command seq = false ∧ isUrgent code = false ∧ isNodeStatusRead code params = false
          ∧ s.command.running.isSome = true
          ∧ (s.command.queue.length < 4 ∧ s' = { s with command := { s.command with
                queue := s.command.queue ++
                  [{ seq := seq, code := code, status := .queued, result := none, data := [], params := params }] } }
            ∨ 4 ≤ s.command.queue.length ∧ s' = reply seq code .refused .queueFull [] s)) := by
  unfold takeCommand
  cases isHeld s.command seq <;> cases isUrgent code <;> cases isNodeStatusRead code params
    <;> cases s.command.running <;> by_cases room : s.command.queue.length < 4 <;> (simp [room]; try omega)

/-- What execution can be: refused for its code or its parameters, ended by its effect, or begun (R138). -/
theorem execute_cases (seq code : Byte) (params : List Byte) (s : State) :
    (∃ e, parse code params = .error e ∧ execute seq code params s = reply seq code .refused e [] s)
      ∨ ∃ c, parse code params = .ok c
        ∧ ((∃ data, (effect c s).2 = .done data
              ∧ execute seq code params s = reply seq code .done .ok data (effect c s).1)
          ∨ (∃ e data, (effect c s).2 = .refused e data
              ∧ execute seq code params s = reply seq code .refused e data (effect c s).1)
          ∨ ((effect c s).2 = .began
              ∧ execute seq code params s = { (effect c s).1 with command := { (effect c s).1.command with
                  running := some
                    { seq := seq, code := code, status := .running, result := none, data := [], params := [] } } })) := by
  unfold execute
  cases parse code params with
  | error e => exact .inl ⟨e, rfl, rfl⟩
  | ok c =>
    refine .inr ⟨c, rfl, ?_⟩
    rcases he : effect c s with ⟨s', ended⟩
    cases ended with
    | done data => exact .inl ⟨data, rfl, by simp only [he]⟩
    | refused e data => exact .inr (.inl ⟨e, data, rfl, by simp only [he]⟩)
    | began => exact .inr (.inr ⟨rfl, by simp only [he]⟩)

/-- A command whose parameters are right and whose effect ends at once adds its record with OK and its data (R142). -/
theorem execute_done {seq code : Byte} {params : List Byte} {s s' : State} {c : Cmd} {data : List Byte}
    (right : parse code params = .ok c) (ends : effect c s = (s', .done data)) :
    execute seq code params s = { s' with command := withReply s'.command (doneRecord seq code data) } := by
  simp only [execute, right, ends, reply, addReply_eq]
  rfl

/-- A command that its effect refuses adds its record with the reason (R142). -/
theorem execute_refused {seq code : Byte} {params : List Byte} {s s' : State} {c : Cmd} {e : ResultCode}
    {data : List Byte} (right : parse code params = .ok c) (ends : effect c s = (s', .refused e data)) :
    execute seq code params s = { s' with command := withReply s'.command (refusedRecord seq code e data) } := by
  simp only [execute, right, ends, reply, addReply_eq]
  rfl

/-- A command row on a node that hears the ring, with nothing running and its sequence number free, is executed; an urgent one
drains afterwards where it ended a running command, which none was (R139). -/
theorem commandRow_ready {code seq : Byte} {params : List Byte} {s : State} (ready : Ready s seq)
    (fits : params.length ≤ 64) : commandRow code seq params s = execute seq code params s := by
  obtain ⟨hears, idle, free⟩ := ready
  simp [commandRow, hears, fits, takeCommand, isHeld_of_free free, idle, drainIfEnded]

/-- A command row has no effect while the bypass is engaged (R188). -/
theorem commandRow_bypassed {s : State} (h : s.ring.bypass = .engaged) (code seq : Byte) (params : List Byte) :
    commandRow code seq params s = s := by
  simp [commandRow, ringConnected, h]

/-! ### Draining (R140) -/

theorem drainQueue_empty (n : Nat) (s : State) (h : s.command.queue = []) : drainQueue n s = s := by
  cases n with
  | zero => rfl
  | succ n => simp only [drainQueue, h]

/-- Draining takes the oldest record, and goes on unless an audit has begun. -/
theorem drainQueue_cons (n : Nat) (s : State) (r : Record) (rest : List Record) (h : s.command.queue = r :: rest) :
    drainQueue (n + 1) s =
      (let s' := execute r.seq r.code r.params { s with command := { s.command with queue := rest } }
       if s'.command.running.isSome = true then s' else drainQueue n s') := by
  simp only [drainQueue, h]

theorem drainIfEnded_idle (s t : State) (h : s.command.running = none) : drainIfEnded s t = t := by
  simp [drainIfEnded, h]

/-- A boundary that ends no dwell leaves the audit, and with it the command unit, as it is (R100). -/
theorem closeDwell_goesOn {s : State} (h : ∀ run, s.audit.run = some run → run.periods < run.dwell) : closeDwell s = s := by
  unfold closeDwell
  cases running : s.audit.run with
  | none => rfl
  | some run =>
    have short := h run running
    cases under : run.under with
    | none => simp only [under]
    | some c => simp only [under, Nat.not_le.mpr short, if_false]

/-- The end of a dwell is its closing, and the draining of the queue where the audit has completed (R100, R101, R140). -/
theorem dwellEnd_cases (s : State) :
    dwellEnd s = closeDwell s
      ∨ s.command.running.isSome = true ∧ (closeDwell s).command.running = none ∧ dwellEnd s = drain (closeDwell s) := by
  unfold dwellEnd drainIfEnded
  split
  · next ended => exact .inr ⟨by simp_all, by simp_all, rfl⟩
  · exact .inl rfl

/-! ### Table staging -/

/-- A table write is refused in ARMED and otherwise replaces the staged set by the one with the item written (R115). -/
theorem stage_cases (write : TableSet → TableSet) (s : State) :
    ((∃ e, s.staging.state = .armed e) ∧ stage write s = (s, .refused .badState []))
      ∨ ((∀ e, s.staging.state ≠ .armed e)
        ∧ stage write s = ({ s with staging := { staged := write s.staging.staged, state := .edited } }, .done [])) := by
  unfold stage
  cases h : s.staging.state <;> simp

/-! ### The audit -/

/-- Taking a channel keeps the mask, the test level and the dwell, and every tally but that of the channels skipped (R99). -/
theorem takeChannel_keeps (forced : Channel → Bool) (l : List Channel) (run : AuditRun) (results : Tab 24 AuditResult) :
    let taken := (takeChannel forced l run results).1
    taken.mask = run.mask ∧ taken.testLevel = run.testLevel ∧ taken.dwell = run.dwell
      ∧ taken.tallies = skippedMore run.tallies (taken.tallies.skipped - run.tallies.skipped)
      ∧ run.tallies.skipped ≤ taken.tallies.skipped := by
  induction l generalizing run results with
  | nil => simp [takeChannel, skippedMore]
  | cons c rest ih =>
    simp only [takeChannel]
    split
    · split
      · obtain ⟨m, t, d, more, least⟩ := ih
          { run with tallies := { run.tallies with skipped := run.tallies.skipped + 1 } } (results.put c .skipped)
        refine ⟨m, t, d, ?_, by simp only at least; omega⟩
        rw [more]
        simp only [skippedMore, Tallies.mk.injEq, true_and] at least ⊢
        omega
      · simp [skippedMore]
    · exact ih run results

/-- A channel taken is one of the list, of the mask, and not latched under FORCE_OFF (R99). -/
theorem takeChannel_under (forced : Channel → Bool) (l : List Channel) (run : AuditRun) (results : Tab 24 AuditResult)
    (d : Channel) (h : (takeChannel forced l run results).1.under = some d) :
    d ∈ l ∧ inMask run.mask d = true ∧ forced d = false := by
  induction l generalizing run results with
  | nil => simp [takeChannel] at h
  | cons c rest ih =>
    simp only [takeChannel] at h
    split at h
    · next named =>
      split at h
      · obtain ⟨there, inside, free⟩ := ih _ _ h
        exact ⟨List.mem_cons_of_mem _ there, inside, free⟩
      · next clear =>
        cases h
        exact ⟨List.mem_cons_self, named, by simpa using clear⟩
    · obtain ⟨there, inside, free⟩ := ih _ _ h
      exact ⟨List.mem_cons_of_mem _ there, inside, free⟩

/-- The end of an audit: IDLE, and the record of its START AUDIT moves to the reply list with the tallies (R101, R103). -/
theorem endAudit_running (result : ResultCode) (s : State) (run : AuditRun) (r : Record) (h : s.audit.run = some run)
    (h' : s.command.running = some r) :
    endAudit result s = { s with
      audit := { s.audit with run := none }
      command := { withReply s.command (auditRecord r result run.tallies) with running := none } } := by
  simp only [endAudit, h, h', addReply_eq]
  rfl

/-- The abort of a running audit marks the channel under test and ends it (R103). -/
theorem abortAudit_running (s : State) (run : AuditRun) (c : Channel) (r : Record) (h : s.audit.run = some run)
    (h' : run.under = some c) (h'' : s.command.running = some r) :
    abortAudit s = { s with
      audit := { run := none, results := s.audit.results.put c .aborted }
      command := { withReply s.command (auditRecord r .aborted run.tallies) with running := none } } := by
  simp only [abortAudit, h, h']
  exact endAudit_running .aborted _ run r rfl h''

theorem abortAudit_idle (s : State) (h : s.audit.run = none) : abortAudit s = s := by
  simp only [abortAudit, h]

end Sys2Proof.Machine
end

