-- ==== Sys2Proof/Laws/Ops.lean ====
section
/-! SUPPORT. The operations of the level path, one lemma for what each can do: cell by cell for those that write a table, case
by case for those that choose. -/

namespace Sys2Proof.Machine

/-! ### Levels and ramps -/

/-- One step of a level never passes its target, and says whether it has arrived (R49). -/
theorem stepLevel_spec (g : Segment) (goal level : Level) :
    (level < goal → (stepLevel g goal level).1.toNat = min goal.toNat (level.toNat + g.rise.toNat))
      ∧ (¬ level < goal → (stepLevel g goal level).1.toNat = max goal.toNat (level.toNat - g.fall.toNat))
      ∧ ((stepLevel g goal level).2 = true ↔ (stepLevel g goal level).1 = goal) := by
  unfold stepLevel
  refine ⟨fun h => ?_, fun h => ?_, ?_⟩
  all_goals
    repeat' split
    all_goals
      simp only [BitVec.lt_def, BitVec.toNat_add, BitVec.toNat_sub, ← BitVec.toNat_inj] at *
      first
        | done
        | omega
        | (simp only [Bool.false_eq_true, false_iff]; omega)

/-- A target change moves no level (R45 to R47). -/
@[simp] theorem targetChange_level (delay : Nat) (goal : Level) (r : Ramp) :
    (targetChange delay goal r).level = r.level := by
  unfold targetChange
  repeat' split
  all_goals rfl

/-- A boundary leaves a STEADY record as it is (R50). -/
theorem rampBoundary_steady (p : Profile) (goal : Level) (r : Ramp) (h : r.state = .steady) :
    rampBoundary p goal r = r := by
  simp only [rampBoundary, h]

/-- A boundary counts the delay of a WAITING record, which becomes MOVING when none is left (R48). -/
theorem rampBoundary_waiting (p : Profile) (goal : Level) (r : Ramp) (h : r.state = .waiting) :
    rampBoundary p goal r
      = { r with delay := r.delay - 1, state := if r.delay - 1 = 0 then .moving else .waiting } := by
  simp only [rampBoundary, delayExpiry, countDelay, h, if_true, true_and]
  split <;> simp_all

/-- A boundary steps a MOVING record by the segment of its level (R49). -/
theorem rampBoundary_moving (p : Profile) (goal : Level) (r : Ramp) (h : r.state = .moving) :
    rampBoundary p goal r
      = { r with
          level := (stepLevel (segmentOf p r.level) goal r.level).1
          state := if (stepLevel (segmentOf p r.level) goal r.level).2 then .steady else .moving } := by
  simp only [rampBoundary, rampStep, h]

@[simp] theorem stepRamps_get (s : State) (c : Channel) :
    (stepRamps s).ramps.get c = rampBoundary (profileFor s c) (s.target.targets.get c) (s.ramps.get c) := by
  simp [stepRamps]

/-! ### Targets -/

@[simp] theorem recompute_target_get (p : Channel → Bool) (s : State) (c : Channel) :
    (recompute p s).target.targets.get c = if p c = true then targetOf s c else s.target.targets.get c := by
  simp [recompute]

/-- A channel's ramp record takes a target change exactly where its target changes (R36, R37). -/
theorem recompute_ramp_get (p : Channel → Bool) (s : State) (c : Channel) :
    (recompute p s).ramps.get c =
      if p c = true ∧ targetOf s c ≠ s.target.targets.get c then
        targetChange (profileFor s c).delay.toNat (targetOf s c) (s.ramps.get c)
      else s.ramps.get c := by
  simp [recompute]

/-- The loss override of a channel is read from the streams and the active set alone (R31). -/
theorem lossOverride_congr {s t : State} (streams : t.streams = s.streams) (active : t.active = s.active) (c : Channel) :
    lossOverride t c = lossOverride s c := by
  simp only [lossOverride, lossLevel, streams, active]

/-- The profile in effect is read from the overrides and the active set alone (R24). -/
theorem profileFor_congr {s t : State} (overrides : t.target.overrides = s.target.overrides)
    (active : t.active = s.active) (c : Channel) : profileFor t c = profileFor s c := by
  simp only [profileFor, profileInEffect, overrides, active]

/-- The usable value at a channel's position is read from the streams, the patch unit and the active set alone (R20). -/
theorem usableValue_congr {s t : State} (streams : t.streams = s.streams) (patch : t.patch = s.patch)
    (active : t.active = s.active) (c : Channel) (q : Position) : usableValue t c q = usableValue s c q := by
  unfold usableValue usable contributionAt entryAt
  rw [streams, patch, active]

/-- The target of a channel is read from the overrides, the streams, the patch unit and the active set alone (R22). -/
theorem targetOf_congr {s t : State} (overrides : t.target.overrides = s.target.overrides)
    (streams : t.streams = s.streams) (patch : t.patch = s.patch) (active : t.active = s.active) (c : Channel) :
    targetOf t c = targetOf s c := by
  simp only [targetOf, mergeResult, usableValue_congr streams patch active, overrides, patch, active]

/-! ### The patch unit -/

@[simp] theorem takeValues_contribution (i : StreamId) (l : List Byte) (s : State) (k : Key) :
    (takeValues i l s).patch.contributions.get k = updatedContribution s i l k := by
  simp [takeValues]

@[simp] theorem takeValues_lastUpdated (i : StreamId) (l : List Byte) (s : State) (c : Channel) :
    (takeValues i l s).patch.lastUpdated.get c =
      if updatesKey s i l (keyOf c .a) = true then .a
      else if updatesKey s i l (keyOf c .b) = true then .b
      else s.patch.lastUpdated.get c := by
  simp [takeValues]

/-- Which entries a LEVEL frame updates (R3). -/
theorem updatesKey_iff (s : State) (i : StreamId) (l : List Byte) (k : Key) :
    updatesKey s i l k = true ↔ ∃ e, s.active.patch.get k = some e ∧ e.stream = i ∧ slotsWithin e l.length = true := by
  unfold updatesKey
  split
  · next e h => simp [h]
  · next h => simp [h]

@[simp] theorem dropValues_contribution (i : StreamId) (s : State) (k : Key) :
    (dropValues i s).patch.contributions.get k =
      match s.active.patch.get k with
      | some e => if e.stream = i then .absent else s.patch.contributions.get k
      | none => s.patch.contributions.get k := by
  unfold dropValues
  exact Tab.get_of _ _

/-! ### Overrides -/

@[simp] theorem removeOverrides_get (p : Channel → Bool) (s : State) (c : Channel) :
    (removeOverrides p s).target.overrides.get c = if p c = true then none else s.target.overrides.get c := by
  simp [removeOverrides]

@[simp] theorem reexamine_get (p : Channel → Bool) (s : State) (c : Channel) :
    (reexamine p s).target.overrides.get c =
      match s.target.overrides.get c with
      | some o => some o
      | none => if p c = true then lossOverride s c else none := by
  unfold reexamine
  exact Tab.get_of _ _

@[simp] theorem applyLossScene_get (i : StreamId) (n : Fin 8) (s : State) (c : Channel) :
    (applyLossScene i n s).target.overrides.get c =
      match s.target.overrides.get c with
      | some o => some o
      | none =>
        if patchedTo s.active c i = true then
          (sceneLevel s.active n c).map fun l => { origin := .loss i, level := l, profile := none }
        else none := by
  unfold applyLossScene
  exact Tab.get_of _ _

/-- A reversal of loss gives each channel that held a LOSS(i) override the one of its re-examination, and no other channel
anything (R32 to R34). -/
theorem reverseLoss_get (i : StreamId) (s : State) (c : Channel) :
    (reverseLoss i s).target.overrides.get c =
      if heldByLoss s i c = true then lossOverride s c else s.target.overrides.get c := by
  have same : lossOverride (removeOverrides (heldByLoss s i) s) c = lossOverride s c :=
    lossOverride_congr (removeOverrides_streams ..) (removeOverrides_active ..) c
  simp only [reverseLoss, reexamine_get, removeOverrides_get, same]
  split
  · next o h =>
    split at h
    · cases h
    · next hb => rw [if_neg hb, h]
  · next h =>
    split at h
    · next hb => rw [if_pos hb, if_pos hb]
    · next hb => rw [if_neg hb, if_neg hb, h]

/-- What the loss of a stream does under each policy (R29). -/
theorem applyLoss_cases (i : StreamId) (s : State) :
    ((s.streams.get i).policy = .hold → applyLoss i s = s)
      ∧ ((s.streams.get i).policy = .release → applyLoss i s = recompute (hasPresent s i) s)
      ∧ ∀ n, (s.streams.get i).policy = .scene n →
          applyLoss i s = recompute
            (fun c => hasPresent s i c || overrideDiffers s (applyLossScene i n s) c) (applyLossScene i n s) := by
  refine ⟨fun h => ?_, fun h => ?_, fun n h => ?_⟩ <;> simp only [applyLoss, h]

/-! ### Streams -/

theorem setStream_get (i j : StreamId) (r : StreamRecord) (s : State) :
    (setStream i r s).streams.get j = if j = i then r else s.streams.get j := by
  simp [setStream, Tab.get_put]

@[simp] theorem countTicks_get (s : State) (i : StreamId) :
    (countTicks s).streams.get i =
      if (s.streams.get i).state = .live then { s.streams.get i with ticks := (s.streams.get i).ticks + 1 }
      else s.streams.get i := by
  simp [countTicks]

/-- A stream is due exactly where it is LIVE and its count has reached its effective timeout (R66). -/
theorem expiryDue_iff (r : StreamRecord) : expiryDue r = true ↔ r.state = .live ∧ effectiveTimeout r ≤ r.ticks := by
  simp [expiryDue]

/-- The examination of a stream loses it or leaves the node as it is (R66). -/
theorem examineExpiry_cases (i : StreamId) (s : State) :
    (expiryDue (s.streams.get i) = true ∧ examineExpiry i s = loseStream i s)
      ∨ (expiryDue (s.streams.get i) = false ∧ examineExpiry i s = s) := by
  unfold examineExpiry
  cases h : expiryDue (s.streams.get i) <;> simp

/-- The effects of a loss touch neither the streams nor the patch unit (R29). -/
theorem applyLoss_keeps (i : StreamId) (s : State) :
    applyLoss i s = { s with target := (applyLoss i s).target, ramps := (applyLoss i s).ramps } := by
  unfold applyLoss
  split <;> simp only [recompute, applyLossScene]

/-! ### The output stage -/

/-- The output level formed is the one of R84, case by case. -/
theorem outputLevel_eq_ruled (s : State) (c : Channel) : outputLevel s c = ruledLevel s c := by
  have forced : forcedOff s c = true
      ↔ (s.output.monitors.get c).latch ≠ none ∧ (s.active.config.get c).faultAction = .forceOff := by
    simp [forcedOff, Option.isSome_iff_ne_none]
  unfold outputLevel ruledLevel
  by_cases on : s.output.switchOn = false
  · simp [on]
  by_cases hot : s.output.thermal = .hot
  · simp [hot]
  by_cases dark : (s.output.monitors.get c).latch ≠ none ∧ (s.active.config.get c).faultAction = .forceOff
  · simp [forced, dark]
  · simp only [on, hot, forced, dark, or_false, if_false]
    rfl

@[simp] theorem formOutputs_get (s : State) (c : Channel) :
    (formOutputs s).output.levels.get c = outputLevel s c
      ∧ (formOutputs s).output.driven.get c = (s.output.driven.get c && outputLevel s c != 0)
      ∧ (formOutputs s).output.tested.get c = (s.output.tested.get c || isUnderTest s c) := by
  simp [formOutputs]

@[simp] theorem beginPeriod_get (s : State) (c : Channel) :
    (beginPeriod s).output.levels.get c = outputLevel s c
      ∧ (beginPeriod s).output.driven.get c = (outputLevel s c != 0)
      ∧ (beginPeriod s).output.tested.get c = isUnderTest s c := by
  simp [beginPeriod]

@[simp] theorem formReports_get (peaks : Tab 24 Nat) (s : State) (c : Channel) :
    (formReports peaks s).output.reports.get c =
      { driven := s.output.driven.get c
        sense := if s.output.driven.get c then senseOf (peaks.get c) else none } := by
  simp [formReports]

@[simp] theorem stepMonitors_get (s : State) (c : Channel) :
    (stepMonitors s).output.monitors.get c =
      settleLatch (countReport (s.output.reports.get c) (s.output.tested.get c) (s.output.monitors.get c)) := by
  simp [stepMonitors]

/-! ### Commit -/

@[simp] theorem commit_contribution (s : State) (k : Key) :
    (commit s).patch.contributions.get k =
      carriedContribution s.active s.staging.staged k (s.patch.contributions.get k) := by
  simp [commit, formOutputs, recompute]

/-- A contribution across a commit, as the rules R14 and R15 give it. -/
theorem carriedContribution_eq (before after : TableSet) (k : Key) (x : Contribution) :
    carriedContribution before after k x = commitContribution before after k x := by
  unfold carriedContribution commitContribution
  rcases before.patch.get k with _ | e <;> rcases after.patch.get k with _ | e'
  · rfl
  · rfl
  · rfl
  · by_cases same : e = e' <;> simp [same, Contribution.absent]

end Sys2Proof.Machine
end

