-- ==== Sys2Proof/Laws/Ring.lean ====
section
/-! SUPPORT. The ring interface, one lemma for what each of its operations can do. -/

namespace Sys2Proof.Machine

/-! ### The hold of the bypass switch (R189) -/

theorem lineBits_cons (x : LineSym) (l : List LineSym) : lineBits (x :: l) = symBits x + lineBits l := by
  cases x <;> simp only [lineBits, symBits]

theorem lineBits_append (l m : List LineSym) : lineBits (l ++ m) = lineBits l + lineBits m := by
  induction l with
  | nil => simp [lineBits]
  | cons x l ih => simp only [List.cons_append, lineBits_cons, ih, Nat.add_assoc]

theorem masked_nil (h : Nat) : masked h [] = [] := by
  cases h <;> simp only [masked]

/-- With the hold over, everything is sent. -/
theorem masked_zero (l : List LineSym) : masked 0 l = l := by
  cases l with
  | nil => exact masked_nil 0
  | cons x l => simp only [masked, if_true]

/-- What is left of one stretch of line within the hold. -/
theorem afterHold_eq (h : Nat) (x : LineSym) :
    afterHold h x = if h = 0 then [x] else if symBits x ≤ h then [] else [lastBits h x] := by
  unfold afterHold lastBits
  split
  · rfl
  · split
    · rfl
    · cases x <;> rfl

/-- The line sent is the sending of its stretches one after another. -/
theorem masked_cons (h : Nat) (x : LineSym) (l : List LineSym) :
    masked h (x :: l) = afterHold h x ++ masked (h - symBits x) l := by
  have bits : lineBits [x] = symBits x := by rw [lineBits_cons, lineBits, Nat.add_zero]
  rw [afterHold_eq]
  simp only [masked, bits]
  split
  · next done => simp [done, masked_zero]
  · split
    · simp
    · next ends => rw [show h - symBits x = 0 by omega, masked_zero]; rfl

/-- The line sent in two parts: the hold that the first part leaves masks the second. -/
theorem masked_append (h : Nat) (l m : List LineSym) :
    masked h (l ++ m) = masked h l ++ masked (h - lineBits l) m := by
  induction l generalizing h with
  | nil => simp [masked_nil, lineBits]
  | cons x l ih => simp only [List.cons_append, masked_cons, ih, lineBits_cons, List.append_assoc, Nat.sub_sub]

/-! ### Runs of characters -/

theorem receive_nil (s : State) : receive [] s = s := rfl

theorem receive_cons (b : Byte) (l : List Byte) (s : State) : receive (b :: l) s = receive l (receiveChar s b) := rfl

theorem receive_append (l m : List Byte) (s : State) : receive (l ++ m) s = receive m (receive l s) := by
  simp [receive, List.foldl_append]

/-- While the bypass is engaged a character passes and nothing else changes (R188). -/
theorem receiveChar_bypassed {s : State} (h : s.ring.bypass = .engaged) (b : Byte) :
    receiveChar s b = send (.char b) s := by
  simp [receiveChar, ringConnected, h]

/-- A run of characters passes a bypassed node, but for what the hold of the bypass switch masks (R188, R189). -/
theorem receive_bypassed (l : List Byte) (s : State) (h : s.ring.bypass = .engaged) :
    receive l s = { s with ring := { s.ring with
      out := s.ring.out ++ masked s.ring.holdLeft (l.map .char)
      holdLeft := s.ring.holdLeft - lineBits (l.map .char) } } := by
  induction l generalizing s with
  | nil => simp [receive, masked_nil, lineBits]
  | cons b l ih =>
    rw [receive_cons, receiveChar_bypassed h, ih _ (by simpa using h)]
    simp only [send, List.map_cons, masked_cons, lineBits_cons, List.append_assoc, Nat.sub_sub]

/-- In HUNT a character is stray: it is repeated, and the line has been seen in mark (R176). -/
theorem receiveChar_hunt {s : State} (hears : ringConnected s = true) (hunt : s.ring.rx = .hunt) (b : Byte) :
    receiveChar s b = send (.char b) { s with ring := { s.ring with markSeen := true } } := by
  simp [receiveChar, hears, backToMark, hunt]

/-- In LEAD-IN a character is the first byte of a frame (R176). -/
theorem receiveChar_leadIn {s : State} (hears : ringConnected s = true) (h : s.ring.rx = .leadIn) (b : Byte) :
    receiveChar s b = frameByte b (enterFrame { s with ring := { s.ring with markSeen := true } }) := by
  simp [receiveChar, hears, backToMark, h, enterFrame]

/-- In FRAME a character is a byte of the frame (R176). -/
theorem receiveChar_frame {s : State} (hears : ringConnected s = true) (h : s.ring.rx = .frame) (b : Byte) :
    receiveChar s b = frameByte b { s with ring := { s.ring with markSeen := true } } := by
  simp [receiveChar, hears, backToMark, h]

/-! ### The bytes of a frame, by their place (R177) -/

/-- The KIND byte. -/
theorem frameByte_kind {s : State} (h : s.ring.byteCount = 0) (b : Byte) :
    frameByte b s = send (.char b) { s with ring := { s.ring with
      byteCount := 1, kind := b, crcIn := crcByte s.ring.crcIn b, crcOut := crcByte s.ring.crcOut b } } := by
  simp [frameByte, h]

/-- The high byte of LENGTH. -/
theorem frameByte_lengthHigh {s : State} (h : s.ring.byteCount = 1) (b : Byte) :
    frameByte b s = send (.char b) { s with ring := { s.ring with
      byteCount := 2, length := wordOf b 0, crcIn := crcByte s.ring.crcIn b, crcOut := crcByte s.ring.crcOut b } } := by
  simp [frameByte, h]

/-- The low byte of LENGTH, at which the plan of an ENUMERATE is made. -/
theorem frameByte_lengthLow {s : State} (h : s.ring.byteCount = 2) (b : Byte) :
    frameByte b s = send (.char b) { s with ring := { s.ring with
      byteCount := 3, length := wordOf (highByte s.ring.length) b
      plan := planAfterLength s.ring.kind (wordOf (highByte s.ring.length) b)
      crcIn := crcByte s.ring.crcIn b, crcOut := crcByte s.ring.crcOut b } } := by
  simp [frameByte, h]

/-- A byte of the body at position `j`: kept as received, sent as the plan has it. -/
theorem frameByte_body {s : State} (j : Nat) (h : s.ring.byteCount = 3 + j) (inside : j < s.ring.length.toNat) (b : Byte) :
    frameByte b s = send (.char (bodyByteOut s j b)) { s with ring := { s.ring with
      byteCount := 4 + j, body := s.ring.body ++ [b], plan := planAfterBody s j b
      crcIn := crcByte s.ring.crcIn b, crcOut := crcByte s.ring.crcOut (bodyByteOut s j b) } } := by
  have before : 3 + j < 3 + s.ring.length.toNat := by omega
  have next : 3 + j + 1 = 4 + j := by omega
  simp only [frameByte, h, before, if_true, next, Nat.add_sub_cancel_left,
    show ¬ 3 + j = 0 by omega, show ¬ 3 + j = 1 by omega, show ¬ 3 + j = 2 by omega, if_false]

/-- The high byte of the CRC. -/
theorem frameByte_crcHigh {s : State} (h : s.ring.byteCount = 3 + s.ring.length.toNat) (b : Byte) :
    frameByte b s = send (.char (crcByteOut s.ring.plan b (highByte s.ring.crcIn) (highByte s.ring.crcOut)))
      { s with ring := { s.ring with byteCount := 4 + s.ring.length.toNat, crcHigh := b } } := by
  have next : 3 + s.ring.length.toNat + 1 = 4 + s.ring.length.toNat := by omega
  simp only [frameByte, h, lt_self_iff_false, if_true, next, show ¬ 3 + s.ring.length.toNat = 0 by omega,
    show ¬ 3 + s.ring.length.toNat = 1 by omega, show ¬ 3 + s.ring.length.toNat = 2 by omega, if_false]

/-- The low byte of the CRC ends a frame whose LENGTH is at most 256, and does nothing more for an over-length one. -/
theorem frameByte_crcLow {s : State} (h : s.ring.byteCount = 4 + s.ring.length.toNat) (b : Byte) :
    frameByte b s =
      (let counted := send (.char (crcByteOut s.ring.plan b (lowByte s.ring.crcIn) (lowByte s.ring.crcOut)))
        { s with ring := { s.ring with byteCount := 5 + s.ring.length.toNat } }
       if s.ring.length.toNat ≤ 256 then frameEnd b counted else counted) := by
  have next : 4 + s.ring.length.toNat + 1 = 5 + s.ring.length.toNat := by omega
  simp only [frameByte, h, if_true, next, show ¬ 4 + s.ring.length.toNat = 0 by omega,
    show ¬ 4 + s.ring.length.toNat = 1 by omega, show ¬ 4 + s.ring.length.toNat = 2 by omega,
    show ¬ 4 + s.ring.length.toNat < 3 + s.ring.length.toNat by omega,
    show ¬ 4 + s.ring.length.toNat = 3 + s.ring.length.toNat by omega, if_false]

/-- A byte of a frame changes the ring interface alone, unless it is the last one (R177, R179). -/
theorem frameByte_frame {s : State} (b : Byte) (h : s.ring.byteCount ≠ 4 + s.ring.length.toNat) :
    frameByte b s = { s with ring := (frameByte b s).ring } := by
  unfold frameByte
  simp only [h, if_false, send]
  repeat' split
  all_goals rfl

/-! ### The end of a frame (R179) -/

/-- A frame of bad CRC has no effect but the end of the frame in transit. -/
theorem frameEnd_bad {s : State} (low : Byte) (h : wordOf s.ring.crcHigh low ≠ s.ring.crcIn) :
    frameEnd low s = { s with ring := { s.ring with rx := .hunt } } := by
  simp [frameEnd, h]

/-- A frame of good CRC is handed on by its kind, the receiver in HUNT. -/
theorem frameEnd_good {s : State} (low : Byte) (h : wordOf s.ring.crcHigh low = s.ring.crcIn)
    (h' : s.ring.length.toNat ≤ 256) :
    frameEnd low s
      = handOn s.ring.kind s.ring.length s.ring.body { s with ring := { s.ring with rx := .hunt } } := by
  simp [frameEnd, h, h']

/-! ### The CRC (R178) -/

/-- The shift of the CRC register is linear, and with it the CRC. -/
theorem crcShift_xor (x y : BitVec 16) : crcShift (x ^^^ y) = crcShift x ^^^ crcShift y := by
  unfold crcShift
  rw [BitVec.msb_xor, BitVec.shiftLeft_xor_distrib]
  generalize x.msb = p, y.msb = q, x <<< 1 = a, y <<< 1 = b
  cases p <;> cases q <;> ext i hi <;> simp <;>
    (cases a[i] <;> cases b[i] <;> cases (4129#16)[i] <;> rfl)

theorem crcOf_append (l : List Byte) (b : Byte) : crcOf (l ++ [b]) = crcByte (crcOf l) b := by
  simp [crcOf]

end Sys2Proof.Machine
end

