-- ==== Sys2Proof/Tests/Slice0.lean ====
section
/-! SUPPORT. Tests. First the checks of WellFormed on ill-formed commands, then the specification's worked examples and single
steps with values it gives, then, for every statement of Certificates/Slice0/Obligations.lean that has hypotheses, a state and
operands that meet them, clause by clause. -/

set_option maxRecDepth 20000

namespace Sys2Proof.Tests

open Sys2Proof Sys2Proof.Machine

/-! ### WellFormed refuses what the ring and the command unit cannot bring -/

theorem test_wellFormed_whole_frame : (Instr.levelFrame 3 [0, 1, 255] 0).wellFormed = true := by decide
theorem test_wellFormed_levelFrame_short : (Instr.levelFrame 3 [0, 1] 0).wellFormed = false := by decide
theorem test_wellFormed_commandFrame_long : (Instr.commandFrame 0 [3] 0).wellFormed = false := by decide
theorem test_wellFormed_pollFrame_short : (Instr.pollFrame 26 [1, 2] 0).wellFormed = false := by decide
theorem test_wellFormed_enumerateFrame_short : (Instr.enumerateFrame 2 [1] 0).wellFormed = false := by decide
theorem test_wellFormed_syncFrame_long : (Instr.syncFrame 2 [1, 2, 3] 0).wellFormed = false := by decide
theorem test_wellFormed_healthFrame_short : (Instr.healthFrame 4 [3] 0).wellFormed = false := by decide
theorem test_wellFormed_unknownKind_short : (Instr.unknownKindFrame 9 1 [] 0).wellFormed = false := by decide
theorem test_wellFormed_leadIn_29_bits : (Instr.leadIn [] 29).wellFormed = false := by decide
theorem test_wellFormed_leadIn_30_bits : (Instr.leadIn [] 30).wellFormed = true := by decide
theorem test_wellFormed_frameBreak_30_bits : (Instr.frameBreak [] 30).wellFormed = false := by decide
theorem test_wellFormed_frameBreak_31_bits : (Instr.frameBreak [] 31).wellFormed = true := by decide
theorem test_wellFormed_params_64 : (Instr.read 1 (List.replicate 64 0)).wellFormed = true := by decide

/-- A parameter block of 65 bytes is refused on every command row (R133). -/
theorem test_wellFormed_params_65 : ([1, 2, 3, 4, 5, 6, 7, 8, 9, 10, 11, 12, 13, 14, 15, 16, 17, 18, 19, 20, 21].all
    fun code => ((commandOf code 0 (List.replicate 65 0)).map Instr.wellFormed) == some false) = true := by decide

/-! ### Numbers that the specification gives -/

/-- R178: the nine bytes 31h to 39h have CRC 29B1h. -/
theorem test_crc_check_value : crcOf [0x31, 0x32, 0x33, 0x34, 0x35, 0x36, 0x37, 0x38, 0x39] = 0x29B1 := by decide

/-- Curve 3 of the curve arithmetic examples. -/
def curve3 : Curve := Tab.of fun k => if k = 16 then 65535 else BitVec.ofNat 16 (256 * k.val * k.val)

/-- Curve 4 of the examples: the points of curve 3 in reverse order. -/
def curve4 : Curve := Tab.of fun k => curve3.get k.rev

theorem test_curve_rising : [257, 32768, 40000, 40092, 65534, 65535].map (applyCurve curve3)
    = [16, 16384, 24460, 24569, 65531, 65535] := by decide
theorem test_curve_falling_truncates_to_zero : [100, 40000, 65535].map (applyCurve curve4) = [65342, 9996, 0] := by decide

/-- The values of R65. -/
theorem test_effectiveTimeout : [250, 40, 50, 5000, 6000, 0].map (fun m => effectiveTimeout { StreamRecord.reset with measured := m })
    = [1000, 200, 200, 20000, 20000, 20000] := by decide

/-- Profile 6 of chapter 3. -/
def profile6 : Profile :=
  { delay := 3, segments := [{ bound := 1024, rise := 64, fall := 128 }, { bound := 65536, rise := 1024, fall := 512 }] }

/-- The boundaries 4, 20, 21, 23 and 24 of the fade of chapter 3, each from the level before it. -/
theorem test_fade_steps : [(4000, 0), (4000, 1024), (500, 2048), (500, 1024), (500, 512)].map
      (fun x : Level × Level => (rampBoundary profile6 x.1 { level := x.2, state := .moving, delay := 0 }).level)
    = [64, 2048, 1536, 512, 500] := by decide
theorem test_fade_arrives_steady :
    rampBoundary profile6 500 { level := 512, state := .moving, delay := 0 } = { level := 500, state := .steady, delay := 0 } := by
  decide
theorem test_fade_delay : rampBoundary profile6 4000 { level := 0, state := .waiting, delay := 1 }
    = { level := 0, state := .moving, delay := 0 } := by decide

/-- The loads of section 5.3 in WARM: the ceiling limits the level, and channel 3 at the ceiling is not affected. -/
theorem test_ceiling_in_warm : [60000, 30000, 65535, 49152].map
      (fun l => minLevel l (effectiveCeiling { OutputStage.reset .warm with ceiling := 49152 }))
    = [49152, 30000, 49152, 49152] := by decide

/-- A load that chatters (section 5.4): OPEN, OPEN, SHORT, NONE, OPEN count 1, 2, 1, 0, 1 and set no latch. -/
theorem test_chatter_sets_no_latch :
    ([some .openLoad, some .openLoad, some .shortLoad, none, some .openLoad].foldl
      (fun m k => settleLatch (countReport { driven := true, sense := k } false m)) Monitor.reset)
    = { count := 1, pending := .openLoad, latch := none } := by decide

/-- The counter of an ENUMERATE at 249, 250 and 251 (R183). -/
theorem test_enumerate_counter : [249, 250, 251].map (fun c => (enumerateCounterOut c, enumerateFlagsOut c 0))
    = [(250, 0), (250, 1), (251, 1)] := by decide

/-- The mask of channels 0, 8 and 23 (R192). -/
theorem test_mask_bytes : maskBytes (maskWhere fun c => c = 0 ∨ c = 8 ∨ c = 23) = [0x80, 0x01, 0x01] := by decide

/-- The answer area for a sequence number that is not held (section 11.2). -/
theorem test_answer_not_held : answerArea none = 1 :: List.replicate 23 0 := by decide

/-- The five lengths of WRITE PROFILE and no other (section 9.1). -/
theorem test_profile_lengths : (List.range 65).filter (lengthAllowed 4) = [2, 8, 14, 20, 26] := by decide

/-- The table gives no row any bits. -/
theorem test_no_word_spells_a_command : decodeTableWord 32 0xFFFFFFFF = none := by decide

/-! ### States and single steps -/

/-- The next state of a command. -/
def after (c : Instr) (s : State) : State :=
  match exec c s with
  | .next t => t
  | .fault _ => s
  | .refused _ => s

/-- The node with address 1 that hears the ring, its outputs ON. -/
def up : State :=
  { State.reset with
    ring := { Ring.reset with address := 1, bypass := .disengaged }
    output := { OutputStage.reset .cool with switchOn := true } }

/-- The node after a lead-in. -/
def awaiting : State := { up with ring := { up.ring with rx := .leadIn } }

/-- Channel 0, position A, fed by slot 0 of stream 0 through the identity. -/
def entry0 : PatchEntry := { stream := 0, coarse := 0, fine := none, curve := 0 }

/-- A table set that patches channel 0 to stream 0 and whose scene 4 names channel 0 at 10000. -/
def tables : TableSet :=
  { TableSet.reset with
    patch := TableSet.reset.patch.put 0 (some entry0)
    scenes := TableSet.reset.scenes.put 4 (some (Tab.of fun c => if c = 0 then some 10000 else none)) }

/-- The node over these tables, in both sets. -/
def patched : State := { awaiting with active := tables, staging := { staged := tables, state := .clean } }

/-- Stream 0 LIVE at 128 on channel 0, which stands at 32896 (section 12.1), 5 ticks after its last arrival. -/
def lit : State :=
  { patched with
    streams := patched.streams.put 0 { StreamRecord.reset with state := .live, ticks := 5 }
    patch := { patched.patch with
      contributions := patched.patch.contributions.put 0 { present := true, raw := 32896, curved := 32896 } }
    target := { patched.target with targets := patched.target.targets.put 0 32896 }
    ramps := patched.ramps.put 0 { level := 32896, state := .steady, delay := 0 }
    output := { patched.output with
      levels := patched.output.levels.put 0 32896, driven := patched.output.driven.put 0 true } }

/-- The same with stream 0 given a record of its own. -/
def withStream (r : StreamRecord) : State := { lit with streams := lit.streams.put 0 r }

/-- A record of a START AUDIT that runs. -/
def auditRunning : Record := { seq := 30, code := 17, status := .running, result := none, data := [], params := [] }

/-- A queued record. -/
def queued (seq code : Byte) (params : List Byte) : Record :=
  { seq := seq, code := code, status := .queued, result := none, data := [], params := params }

/-- A record of a command that is done. -/
def held (seq : Byte) : Record := { seq := seq, code := 7, status := .done, result := some .ok, data := [], params := [] }

/-- An audit of channels 0 and 2 at 20000 with dwell 4, so many periods counted of channel 0. -/
def audit (periods : Nat) : AuditRun :=
  { mask := 5, testLevel := 20000, dwell := 4, under := some 0, periods := periods, tallies := .zero }

/-- The node in that audit. -/
def auditing (periods : Nat) : State :=
  { up with
    audit := { run := some (audit periods), results := up.audit.results }
    command := { up.command with running := some auditRunning }
    output := { up.output with
      levels := up.output.levels.put 0 20000, driven := up.output.driven.put 0 true, tested := up.output.tested.put 0 true } }

/-- The node ARMED for epoch 500. -/
def armed : State := { patched with staging := { patched.staging with state := .armed 500 } }

/-- The node with a staged set that was edited. -/
def edited (t : TableSet) : State := { up with staging := { staged := t, state := .edited } }

/-- A period in which every load senses 1 V. -/
def sound : Instr := .outputPeriodBoundary (Tab.all 1000) .rampsFirst

theorem test_levelFrame_lights : ((after (.levelFrame 3 [0, 1, 128] (goodCrc 1 3 [0, 1, 128])) patched).target.targets.get 0,
    (after (.levelFrame 3 [0, 1, 128] (goodCrc 1 3 [0, 1, 128])) patched).ramps.get 0)
    = (32896, { level := 0, state := .moving, delay := 0 }) := by decide
theorem test_levelFrame_bad_crc : (after (.levelFrame 3 [0, 1, 128] 0) patched).patch = patched.patch := by decide
theorem test_commandFrame_to_address : (after (.commandFrame 5 [1, 1, 9, 7, 0] (goodCrc 2 5 [1, 1, 9, 7, 0])) awaiting).command.replies
    = [held 9] := by decide
theorem test_commandFrame_elsewhere : (after (.commandFrame 5 [1, 2, 9, 7, 0] (goodCrc 2 5 [1, 2, 9, 7, 0])) awaiting).command.replies
    = [] := by decide
theorem test_pollFrame_answers : (sentBytes (after (.pollFrame 26 (1 :: List.replicate 25 0) 0) awaiting).ring.out).take 7
    = [3, 0, 26, 1, 0, 1, 0] := by decide
theorem test_enumerateFrame_adopts : (after (.enumerateFrame 2 [0, 0] (goodCrc 4 2 [0, 0])) awaiting).ring.address = 1
    ∧ sentBytes (after (.enumerateFrame 2 [6, 0] (goodCrc 4 2 [6, 0])) awaiting).ring.out
      = 4 :: 0 :: 2 :: 7 :: 0 :: wordBytes (goodCrc 4 2 [7, 0]) := by decide
theorem test_enumerateFrame_overflow : (after (.enumerateFrame 2 [250, 0] (goodCrc 4 2 [250, 0])) awaiting).ring.address = 0 := by
  decide
theorem test_syncFrame_commits : (after (.syncFrame 2 [1, 0xF4] (goodCrc 5 2 [1, 0xF4])) armed).staging.state = .clean := by decide
theorem test_syncFrame_other_epoch : (after (.syncFrame 2 [1, 0xF5] (goodCrc 5 2 [1, 0xF5])) armed).staging = armed.staging := by
  decide
theorem test_healthFrame_writes : (sentBytes (after (.healthFrame 4 [3, 255, 255, 255] 0) armed).ring.out).take 7
    = [6, 0, 4, 3, 0x84, 255, 255] := by decide
theorem test_unknownKindFrame_repeated : sentBytes (after (.unknownKindFrame 9 1 [5] 0x1234) awaiting).ring.out
    = [9, 0, 1, 5, 0x12, 0x34] := by decide
theorem test_leadIn_truncates : (after (.leadIn [1, 0] 30) awaiting).ring.rx = .leadIn := by decide
theorem test_frameBreak_truncates : (after (.frameBreak [1, 0] 31) awaiting).ring.rx = .hunt := by decide
theorem test_framingError_truncates : (after (.framingError [1, 0] 7) awaiting).ring.rx = .hunt := by decide
theorem test_tick_at_timeout : ((after (.tick []) (withStream { StreamRecord.reset with
    state := .live, timeout := .ticks 1000, ticks := 999 })).streams.get 0).state = .lost := by decide
theorem test_tick_before_timeout : ((after (.tick []) (withStream { StreamRecord.reset with
    state := .live, timeout := .ticks 1000, ticks := 998 })).streams.get 0).state = .live := by decide
theorem test_streamExpiry_scene : (after (.streamExpiry 0) (withStream { StreamRecord.reset with
    state := .live, timeout := .ticks 5, policy := .scene 4, ticks := 5 })).target.targets.get 0 = 10000 := by decide
theorem test_boundary_counts_audit : (after sound (auditing 0)).audit.run = some (audit 1) := by decide
theorem test_boundary_ends_dwell : (after sound (auditing 3)).audit.results.get 0 = .pass
    ∧ underTest (after sound (auditing 3)).audit = some 2 := by decide

/-- The audit's last boundary, with a COMMIT NOW queued that gives every channel phase group 3. -/
def lastBoundary : State :=
  { auditing 3 with
    audit := { run := some { audit 3 with under := some 2 }, results := up.audit.results }
    staging := { staged := { up.active with config := Tab.all { (up.active.config.get 0) with phase := 3 } }, state := .edited }
    command := { (auditing 3).command with queue := [queued 31 10 []] } }

/-- R92: the new phase groups of that COMMIT NOW are those of the period that begins, or of the one after it. -/
theorem test_boundary_drained_commit : [.auditFirst, .rampsFirst, .drainLast].map (fun order =>
      let t := after (.outputPeriodBoundary (Tab.all 1000) order) lastBoundary
      (t.staging.state, t.output.phases.get 0, (t.active.config.get 0).phase))
    = [(.clean, 3, 3), (.clean, 3, 3), (.clean, 0, 3)] := by decide
theorem test_rampDelayExpiry : (after (.rampDelayExpiry 0) { up with
    ramps := up.ramps.put 0 { level := 7, state := .waiting, delay := 0 } }).ramps.get 0
    = { level := 7, state := .moving, delay := 0 } := by decide
theorem test_faultLatchSet : (after (.faultLatchSet 12) { up with output := { up.output with
    monitors := up.output.monitors.put 12 { count := 3, pending := .openLoad, latch := none } } }).output.monitors.get 12
    = { count := 0, pending := .openLoad, latch := some .openLoad } := by decide
theorem test_auditDwellEnd : underTest (after .auditDwellEnd (auditing 4)).audit = some 2 := by decide
theorem test_auditComplete : (after .auditComplete { auditing 0 with
      audit := { run := some { audit 0 with under := none }, results := Tab.all .pass } }).command.replies.map Record.result
    = [some .ok] := by decide
theorem test_thermal_thresholds : [104, 105].map (fun d => (after (.thermalConditionChange d) up).output.thermal)
    = [.cool, .warm] := by decide
theorem test_thermal_hysteresis : [95, 96, 134, 135].map
      (fun d => (after (.thermalConditionChange d) { up with output := { up.output with thermal := .warm } }).output.thermal)
    = [.cool, .warm, .warm, .hot] := by decide
theorem test_powerOn_resets : (after (.powerOn 105) { lit with ring := { lit.ring with bypass := .engaged } }).output
    = OutputStage.reset .warm := by decide
theorem test_powerFail_loses_address : (after (.powerFail []) lit).ring.address = 0
    ∧ (after (.powerFail []) lit).ring.bypass = .engaged := by decide
theorem test_resetnAssert_holds : driveHigh (after (.resetnAssert []) lit) 0 0 = false := by decide
theorem test_resetnRelease_starts : (after (.resetnRelease 20) State.reset).ring.bypass = .engaged := by decide
theorem test_initialisationEnd : (after (.initialisationEnd [] false) State.reset).ring.bypass = .disengaged := by decide

/-- R189: with 15 bit times of a hold left, the first character is not sent, and of the space run after it the last 35 are. -/
theorem test_hold_masks_line : let t := after (.leadIn [7] 40) { State.reset with ring := { State.reset.ring with holdLeft := 15 } }
    (t.ring.out, t.ring.holdLeft) = ([.space 35], 0) := by decide
theorem test_hold_cuts_character : masked 15 [.char 1, .char 2, .char 3] = [.cut 5 2 true, .char 3] := by decide

/-- R189: on an idle line a change of the bypass has no effect; a tick comes after the hold, in a node held in reset too. -/
theorem test_tick_ends_hold : [true, false].map (fun high => (after (.tick []) { State.reset with
    ring := { State.reset.ring with holdLeft := 90, resetnHigh := high } }).ring.holdLeft) = [0, 0] := by decide
theorem test_setGroups_ascending : (after (.setGroups 1 [63, 1, 7]) up).command.groups = [1, 7, 63] := by decide
theorem test_writePatch_stages : (after (.writePatch 1 [5, 1, 1, 2, 30, 0xFF, 3]) up).staging.staged.patch.get 11
    = some { stream := 2, coarse := 30, fine := none, curve := 3 } := by decide
theorem test_writeChannel_stages : (after (.writeChannel 1 [7, 6, 1, 0x12, 0x34, 1, 3]) up).staging.staged.config.get 7
    = { profile := 6, mergeRule := .latest, rest := 0x1234, faultAction := .forceOff, phase := 3 } := by decide
theorem test_writeProfile_stages :
    (after (.writeProfile 1 [6, 1, 3, 2, 4, 0, 0, 64, 0, 128, 4, 0, 2, 0]) up).staging.staged.profiles.get 5 = some profile6 := by
  decide
theorem test_writeCurve_deletes : (after (.writeCurve 1 [1, 0]) (edited
      { TableSet.reset with curves := Tab.all (some curve3) })).staging.staged.curves.get 0 = none := by decide
theorem test_writeScene_stages : ((after (.writeScene 1 [4, 1, 0, 0x0C, 0, 0x27, 0x10, 0x4E, 0x20]) up).staging.staged.scenes.get 4).map
      (fun x => (x.get 10, x.get 11, x.get 12)) = some (some 10000, some 20000, none) := by decide
theorem test_copyActive_disarms : (after (.copyActive 1 []) armed).staging = { staged := tables, state := .clean } := by decide
theorem test_arm_undefined_curve : (after (.arm 1 [0, 5]) (edited
      { TableSet.reset with patch := TableSet.reset.patch.put 18 (some { entry0 with curve := 6 }) })).command.replies.map Record.data
    = [[1, 18, 1, 6]] := by decide
theorem test_arm_moves_epoch : (after (.arm 1 [0, 5]) armed).staging.state = .armed 5 := by decide
theorem test_disarm_edits : (after (.disarm 1 []) armed).staging.state = .edited := by decide
theorem test_commitNow_installs : (after (.commitNow 1 []) (edited tables)).active = tables := by decide
theorem test_setStream_disables : (after (.setStream 1 [0, 0, 0, 0, 0, 0]) lit).target.targets.get 0 = 0
    ∧ (after (.setStream 1 [0, 0, 0, 0, 0, 0]) lit).patch.contributions.get 0 = .absent := by decide
theorem test_setStream_reached_timeout : ((after (.setStream 1 [0, 1, 0, 5, 1, 0]) lit).streams.get 0).state = .lost := by decide
theorem test_recallScene_overrides : (after (.recallScene 1 [4]) patched).target.overrides.get 0
    = some { origin := .command, level := 10000, profile := none } := by decide
theorem test_recallScene_undefined : (after (.recallScene 1 [3]) patched).command.replies.map Record.result
    = [some .undefinedRef] := by decide
theorem test_release_sets_again : ((after (.release 1 [0, 0, 1]) { withStream { StreamRecord.reset with
      state := .lost, policy := .scene 4 } with target := { overrides := Tab.all (some
        { origin := .command, level := 1, profile := none }), targets := Tab.all 1 } }).command.replies.map Record.data)
    = [[1, 1]] := by decide
theorem test_outputsOn : (after (.outputsOn 1 []) { lit with output := OutputStage.reset .cool }).output.levels.get 0 = 32896 := by
  decide
theorem test_outputsOff_aborts : (after (.outputsOff 33 []) (auditing 2)).command.replies.map (fun r => (r.seq, r.result, r.data))
    = [(30, some .aborted, [0, 0, 0, 0]), (33, some .ok, [])] := by decide
theorem test_clearFaults_counts : (after (.clearFaults 1 [0, 0, 16]) { up with output := { up.output with
      monitors := Tab.all { count := 2, pending := .openLoad, latch := some .shortLoad } } }).command.replies.map Record.data
    = [[1]] := by decide
theorem test_startAudit_begins : (after (.startAudit 30 [0, 0, 5, 0x4E, 0x20, 4]) up).audit.run = some (audit 0)
    ∧ (after (.startAudit 30 [0, 0, 5, 0x4E, 0x20, 4]) up).output.levels.get 0 = 20000 := by decide
theorem test_startAudit_outputs_off : (after (.startAudit 30 [0, 0, 5, 0x4E, 0x20, 4]) { up with
      output := OutputStage.reset .cool }).command.replies.map Record.result = [some .badState] := by decide
theorem test_abortAudit_aborts : (after (.abortAudit 33 []) (auditing 2)).audit.results.get 0 = .aborted
    ∧ (after (.abortAudit 33 []) (auditing 2)).audit.run = none := by decide
theorem test_setCeiling : (after (.setCeiling 1 [0x80, 0]) { lit with
      output := { lit.output with thermal := .warm }
      ramps := Tab.all { level := 60000, state := .steady, delay := 0 } }).output.levels.get 0 = 32768 := by decide
theorem test_read_empty_key : (after (.read 1 [1, 0, 3, 0]) up).command.replies.map Record.data = [[0, 0, 0, 0xFF, 0]] := by decide

/-- The node status of section 12.4, read with one record queued and two in the reply list. -/
theorem test_read_node_status : ((after (.read 32 [8, 0, 0, 0]) { auditing 0 with
      ring := { up.ring with address := 3 }
      command := { up.command with
        running := some auditRunning, queue := [queued 31 16 [0, 0, 16]], replies := [held 3, held 10] } }).command.replies.drop 2).map
      Record.data = [[3, 0, 0, 0, 0, 0, 0, 0, 0, 1, 0, 1, 0, 1, 2, 0xC0, 0]] := by decide
theorem test_nodeReset_keeps_address : (after (.nodeReset 5 []) (auditing 2)).ring.address = 1
    ∧ (after (.nodeReset 5 []) (auditing 2)).command.replies.map Record.seq = [5]
    ∧ (after (.nodeReset 5 []) (auditing 2)).output.switchOn = false := by decide
theorem test_step_takes_front : (match step { up with pending := [.outputsOff 1 [], .outputsOn 2 []] } with
    | .next t => (t.output.switchOn, t.pending)
    | _ => (true, [])) = (false, [.outputsOn 2 []]) := by decide

/-! ### Hypotheses that can be met, statement by statement -/

/-- A statement about what an optional value holds, as one that can be decided. -/
theorem forall_some {α : Type} {o : Option α} {p : α → Prop} : (∀ x, o = some x → p x) ↔ ∀ x ∈ o, p x := Iff.rfl

theorem exists_some {α : Type} {o : Option α} {p : α → Prop} : (∃ x, o = some x ∧ p x) ↔ ∃ x ∈ o, p x := Iff.rfl

theorem ready_up : Ready up 9 := by unfold Ready SeqFree; decide
theorem ready_lit : Ready lit 9 := by unfold Ready SeqFree; decide
theorem ready_armed : Ready armed 9 ∧ Armed armed := ⟨by unfold Ready SeqFree; decide, 500, by decide⟩
theorem ready_edited : Ready (edited tables) 9 ∧ ¬ Armed (edited tables) :=
  ⟨by unfold Ready SeqFree; decide, by rintro ⟨e, h⟩; cases h⟩
theorem awaits_awaiting : AwaitsFrame awaiting := by unfold AwaitsFrame; decide
theorem awaits_lit : AwaitsFrame lit := by unfold AwaitsFrame; decide
theorem awaits_armed : AwaitsFrame armed := by unfold AwaitsFrame; decide
theorem takes_auditing : Takes (auditing 2) 9 ∧ Takes up 9 := by unfold Takes SeqFree; decide

theorem witness_StepTakesFrontCommand :
    { up with pending := [.auditComplete] }.pending = .auditComplete :: [] ∧ up.pending = [] := by decide

/-! The invariants, in states in which something goes on. -/

theorem witness_OutputLevelsFollowRule : OutputsOk lit ∧ ∃ t, step lit = .next t :=
  ⟨by unfold OutputsOk; decide, lit, rfl⟩
theorem witness_RampRecordsKept :
    RampsOk { lit with
        ramps := (lit.ramps.put 0 { level := 7, state := .waiting, delay := 255 }).put 1
          { level := 9, state := .moving, delay := 0 } }
      ∧ ∃ t, step lit = .next t :=
  ⟨by unfold RampsOk; dsimp only; decide, lit, rfl⟩
theorem witness_LevelPathKept :
    StreamsOk lit ∧ ContributionsOk lit ∧ OverridesOk lit ∧ TargetsOk lit ∧ ∃ t, step lit = .next t := by
  refine ⟨by unfold StreamsOk; dsimp only; decide, ?_, ?_, by unfold TargetsOk; decide, lit, rfl⟩
  · unfold ContributionsOk
    simp only [exists_some]
    decide
  · intro c o i h
    revert h
    revert c
    have none' : ∀ c : Channel, lit.target.overrides.get c = none := by decide
    intro c h
    rw [none'] at h
    cases h
theorem witness_WindowAndAuditKept :
    WindowOk { auditing 2 with command := { (auditing 2).command with
        queue := [queued 1 7 [], queued 2 7 [], queued 3 7 [], queued 4 7 []]
        replies := [held 5, held 6, held 7, held 8, held 9, held 10, held 11, held 12] } }
      ∧ AuditOk (auditing 3) ∧ WindowOk (auditing 3) ∧ ∃ t, step (auditing 3) = .next t := by
  refine ⟨?_, ?_, ?_, auditing 3, rfl⟩
  · unfold WindowOk
    simp only [forall_some]
    decide
  · unfold AuditOk
    simp only [forall_some, exists_some]
    decide
  · unfold WindowOk
    simp only [forall_some]
    decide
theorem refs_tables : RefsDefined tables armed.target.overrides armed.streams := by
  unfold RefsDefined
  simp only [forall_some]
  refine ⟨by decide, by decide, ?_, ?_⟩
  · intro c x p h
    have none' : ∀ c : Channel, armed.target.overrides.get c = none := by decide
    rw [none'] at h
    cases h
  · decide
theorem witness_TableReferencesKept : StagingOk armed ∧ ∃ t, step armed = .next t :=
  ⟨⟨refs_tables, by decide, fun _ _ => refs_tables⟩, armed, rfl⟩
theorem witness_FormsAndRangesKept : (∃ t, step up = .next t) ∧ TablesOk patched ∧ MonitorsOk up ∧ LinkOk up := by
  refine ⟨⟨up, rfl⟩, ?_, by unfold MonitorsOk; decide, by unfold LinkOk; decide⟩
  unfold TablesOk TableSetOk
  simp only [forall_some]
  refine ⟨⟨by decide, ?_, by decide⟩, ⟨by decide, ?_, by decide⟩⟩
  all_goals
    intro n p h
    have none' : ∀ n, tables.profiles.get n = none := by decide
    rw [Option.mem_def] at h
    cases (none' n).symm.trans h

/-! The ring. -/

theorem witness_CrcErrorPatternKept :
    frameOf (.levelFrame 0 [] 5) = some (1, 0, [], 5) ∧ frameOf (.healthFrame 4 [3, 255, 255, 255] 0) = some (6, 4, [3, 255, 255, 255], 0)
      ∧ AwaitsFrame awaiting ∧ Whole 0 [] ∧ Whole 4 [3, 255, 255, 255] ∧ Whole 256 (List.replicate 256 0) := by
  unfold AwaitsFrame Whole
  decide
theorem witness_CommandFrameTakesCommand_modes :
    AwaitsFrame awaiting
      ∧ (1 ≤ (1 : Byte).toNat ∧ (1 : Byte).toNat ≤ 250 ∧ 1 = awaiting.ring.address)
      ∧ (63 : Byte) ∈ { awaiting with command := { awaiting.command with groups := [63] } }.command.groups
      ∧ (5 : BitVec 16).toNat = 5 + ([] : List Byte).length
      ∧ (69 : BitVec 16).toNat = 5 + (List.replicate 64 (0 : Byte)).length
      ∧ commandOf 21 9 [] = some (.nodeReset 9 []) := by
  unfold AwaitsFrame
  decide
theorem witness_CommandFrameTakesCommand_unknown :
    commandOf 0 9 [] = none ∧ commandOf 22 9 [] = none ∧ awaiting.command.running = none ∧ SeqFree awaiting.command 9 := by
  unfold SeqFree
  decide
theorem witness_CommandFrameTakesCommand_behind_audit :
    let s := fun (queue : List Record) => { auditing 2 with
      ring := awaiting.ring, command := { (auditing 2).command with queue := queue } }
    AwaitsFrame (s []) ∧ commandOf 22 9 [] = none ∧ (s []).command.running ≠ none ∧ SeqFree (s []).command 9
      ∧ SeqFree (s [queued 1 7 [], queued 2 7 [], queued 3 7 []]).command 9
      ∧ (s [queued 1 7 [], queued 2 7 [], queued 3 7 []]).command.queue.length < 4
      ∧ SeqFree (s [queued 1 7 [], queued 2 7 [], queued 3 7 [], queued 4 7 []]).command 9
      ∧ 4 ≤ (s [queued 1 7 [], queued 2 7 [], queued 3 7 [], queued 4 7 []]).command.queue.length
      ∧ (∃ r ∈ heldRecords (s [queued 9 7 []]).command, r.seq = 9) := by
  unfold AwaitsFrame SeqFree
  decide
theorem witness_CommandFrameTakesCommand_refused : Whole 4 [3, 0, 9, 7]
    ∧ ¬ ∃ (mode num seq code : Byte) (params : List Byte), params.length ≤ 64
      ∧ [3, 0, 9, 7] = mode :: num :: seq :: code :: byteOf params.length :: params :=
  ⟨by unfold Whole; decide, by rintro ⟨_, _, _, _, _, _, h⟩; simp at h⟩
theorem witness_RefusedFramesIgnored :
    AwaitsFrame awaiting ∧ frameOf (.unknownKindFrame 7 0 [] 0) = some (7, 0, [], 0)
      ∧ frameOf (.unknownKindFrame 0 0 [] 0) = some (0, 0, [], 0)
      ∧ 256 < (257 : BitVec 16).toNat ∧ (List.replicate 257 (0 : Byte)).length = (257 : BitVec 16).toNat
      ∧ (0 : BitVec 16) ≠ goodCrc 1 0 [] := by
  unfold AwaitsFrame
  decide
theorem witness_RefusedFramesIgnored_body : Whole 1 [0]
    ∧ ¬ ∃ (i : StreamId) (n : Byte) (slots : List Byte), [0] = byteOf i :: n :: slots :=
  ⟨by unfold Whole; decide, by rintro ⟨_, _, _, h⟩; simp at h⟩
theorem witness_TruncatedFramesIgnored :
    AwaitsFrame awaiting ∧ CutShort awaiting [] [] ∧ CutShort awaiting [4, 0, 2, 6] [4, 0, 2, 7]
      ∧ CutShort awaiting [9, 1, 1, 5, 6] [9, 1, 1, 5, 6] := by
  refine ⟨awaits_awaiting, .inl ⟨[1, 0, 0, 0, 0], 1, 0, [], 0, ?_⟩, .inl ⟨[0, 0, 0], 4, 2, [6, 0], 0, ?_⟩,
    .inr ⟨[], 9, 257, [5, 6], ?_⟩⟩
  · unfold Whole
    decide
  · unfold Whole
    decide
  · decide
theorem witness_StrayCharactersRepeated : ringConnected up = true ∧ up.ring.rx = .hunt := by decide
theorem witness_BypassedNodeTakesNothing :
    State.reset.ring.bypass = .engaged ∧ frameOf (.syncFrame 2 [0, 1] 3) = some (5, 2, [0, 1], 3)
      ∧ commandOf 21 0 [] = some (.nodeReset 0 []) := by decide
theorem witness_LevelArrivalTakesValues :
    AwaitsFrame lit ∧ (242 : BitVec 16).toNat = 2 + (List.replicate 240 (0 : Byte)).length
      ∧ (3 : BitVec 16).toNat = 2 + [(128 : Byte)].length ∧ (lit.streams.get 0).state ≠ .disabled
      ∧ (lit.active.patch.get 0 = some entry0 ∧ entry0.stream = 0 ∧ entry0.coarse.val < 1) := by
  unfold AwaitsFrame
  decide
theorem witness_LevelArrivalTakesValues_wide :
    { lit with active := { tables with patch := tables.patch.put 1 (some { entry0 with fine := some 239 }) } }.active.patch.get 1
      = some { entry0 with fine := some 239 } := by decide
theorem witness_LevelArrivalRecomputes :
    AwaitsFrame (withStream { StreamRecord.reset with state := .lost, policy := .scene 4 })
      ∧ ((withStream { StreamRecord.reset with state := .lost, policy := .scene 4 }).streams.get 0).state = .lost := by
  unfold AwaitsFrame
  decide
theorem window_awaiting : WindowOk awaiting := by
  unfold WindowOk
  simp only [forall_some]
  decide
theorem witness_PollAnswered :
    AwaitsFrame awaiting ∧ WindowOk awaiting ∧ Whole 26 (1 :: 9 :: List.replicate 24 0) ∧ awaiting.ring.address = 1 :=
  ⟨awaits_awaiting, window_awaiting, by unfold Whole; decide, by decide⟩
theorem witness_EnumerateCountsAndAdopts : AwaitsFrame awaiting ∧ Whole 2 [249, 0] ∧ Whole 2 [250, 1] ∧ Whole 0 [] := by
  unfold AwaitsFrame Whole
  decide
theorem witness_SyncCommits : AwaitsFrame armed ∧ Whole 2 [1, 0xF4] ∧ armed.staging.state = .armed 500
    ∧ [1, 0xF4] = wordBytes 500 := by
  unfold AwaitsFrame Whole
  decide
theorem witness_HealthByteWritten :
    AwaitsFrame awaiting ∧ Whole 2 [1, 255] ∧ Whole 251 (250 :: List.replicate 250 255) ∧ awaiting.ring.address = 1
      ∧ (251 : BitVec 16).toNat = 1 + (250 : Byte).toNat := by
  unfold AwaitsFrame Whole
  decide

/-! Time, the audit, supply and sensor. -/

theorem witness_TickCountsAndLoses :
    blocksRun lit = true ∧ blocksRun { lit with ring := { lit.ring with resetnHigh := false } } = false
      ∧ (∀ j, ((withStream { StreamRecord.reset with state := .live, timeout := .ticks 6, ticks := 5 }).streams.get j).state = .live
          → j = 0) := by decide
theorem witness_TickCountsAndLoses_due :
    let r := (withStream { StreamRecord.reset with state := .live, timeout := .ticks 6, ticks := 5 }).streams.get 0
    r.state = .live ∧ effectiveTimeout r ≤ r.ticks + 1 ∧ r.policy = .hold := by decide
theorem witness_TickCountsAndLoses_two_due :
    let r := { StreamRecord.reset with state := .live, timeout := .ticks 6, policy := .scene 4, ticks := 5 }
    let s := { withStream r with
      active := { tables with patch := tables.patch.put 1 (some { entry0 with stream := 1 }) }
      streams := (lit.streams.put 0 r).put 1 r }
    [1] ++ List.finRange 16 = [] ++ 1 :: List.finRange 16 ∧ (s.streams.get 1) = r ∧ effectiveTimeout r ≤ r.ticks + 1
      ∧ (s.streams.get 0) = r ∧ s.target.overrides.get 0 = none ∧ s.target.overrides.get 1 = none
      ∧ lossApplied s 1 (.scene 4) none 0 = some { origin := .loss 1, level := 10000, profile := none }
      ∧ lossApplied s 1 (.scene 4) none 1 = none := by decide
theorem witness_StreamExpiryAppliesPolicy :
    let r := (withStream { StreamRecord.reset with state := .live, timeout := .ticks 5, policy := .scene 4, ticks := 5 }).streams.get 0
    (r.state = .live ∧ effectiveTimeout r ≤ r.ticks) ∧ (lit.streams.get 1).state ≠ .live
      ∧ (lit.streams.get 0).ticks < effectiveTimeout (lit.streams.get 0) := by decide
theorem goes_on_lit : DwellGoesOn lit ∧ DwellGoesOn (auditing 2) := by
  constructor
  · rintro run c ⟨⟩
  · rintro run c ⟨⟩ _
    decide
theorem witness_BoundaryReportsAndConfirms :
    blocksRun lit = true ∧ DwellGoesOn lit ∧ lit.output.driven.get 0 = true ∧ lit.output.driven.get 1 = false
      ∧ lit.output.tested.get 0 = false ∧ 2000 < (Tab.all 2001 : Tab 24 Nat).get 0 ∧ (Tab.all 199 : Tab 24 Nat).get 0 < 200 :=
  ⟨by decide, goes_on_lit.1, by decide⟩
theorem witness_BoundaryReportsAndConfirms_audit :
    blocksRun (auditing 2) = true ∧ DwellGoesOn (auditing 2) ∧ (auditing 2).output.tested.get 0 = true :=
  ⟨by decide, goes_on_lit.2, by decide⟩
theorem witness_BoundaryReportsAndConfirms_counts :
    let s := { lit with output := { lit.output with
      monitors := lit.output.monitors.put 0 { count := 2, pending := .openLoad, latch := none } } }
    blocksRun s = true ∧ s.audit.run = none ∧ 0 < (s.output.monitors.get 0).count := by decide
theorem witness_BoundaryStepsAndForms : blocksRun (auditing 2) = true ∧ DwellGoesOn (auditing 2) ∧ blocksRun lit = true ∧ DwellGoesOn lit :=
  ⟨by decide, goes_on_lit.2, by decide, goes_on_lit.1⟩
theorem witness_BoundaryStepsAndForms_held : blocksRun { lit with ring := { lit.ring with resetnHigh := false } } = false := by
  decide
theorem witness_BoundaryStepsAndForms_dwell_ends :
    blocksRun (auditing 3) = true ∧ (auditing 3).audit.run = some (audit 3) ∧ (audit 3).under = some 0
      ∧ (audit 3).dwell ≤ (audit 3).periods + 1 ∧ (auditing 3).command.running = some auditRunning
      ∧ blocksRun lastBoundary = true ∧ lastBoundary.audit.run = some { audit 3 with under := some 2 }
      ∧ lastBoundary.command.running = some auditRunning := by decide
theorem witness_BoundaryStepsAndForms_ramps :
    let s := { lit with
      ramps := ((lit.ramps.put 0 { level := 65535, state := .moving, delay := 0 }).put 1
        { level := 0, state := .waiting, delay := 1 }).put 2 { level := 9, state := .moving, delay := 0 }
      target := { lit.target with targets := lit.target.targets.put 2 65535 } }
    (s.target.targets.get 0).toNat < (s.ramps.get 0).level.toNat ∧ (s.ramps.get 1).state = .waiting
      ∧ (s.ramps.get 2).level.toNat < (s.target.targets.get 2).toNat ∧ (s.ramps.get 3).state = .steady
      ∧ s.audit.run = none := by decide
theorem witness_BoundaryStepsAndForms_segment :
    FirstAbove profile6.segments 1023 { bound := 1024, rise := 64, fall := 128 }
      ∧ FirstAbove profile6.segments 1024 { bound := 65536, rise := 1024, fall := 512 } :=
  ⟨⟨[], [{ bound := 65536, rise := 1024, fall := 512 }], by decide⟩,
    ⟨[{ bound := 1024, rise := 64, fall := 128 }], [], by decide⟩⟩
theorem witness_RampDelayExpires :
    let s := { up with ramps := up.ramps.put 0 { level := 7, state := .waiting, delay := 0 } }
    (s.ramps.get 0).state = .waiting ∧ (s.ramps.get 0).delay = 0 := by decide
theorem witness_FaultLatchSets :
    let s := { up with
      active := { up.active with config := up.active.config.put 12 { (up.active.config.get 12) with faultAction := .forceOff } }
      output := { up.output with monitors := up.output.monitors.put 12 { count := 3, pending := .openLoad, latch := none } } }
    (s.output.monitors.get 12).count = 3 ∧ (s.active.config.get 12).faultAction = .forceOff := by decide
theorem witness_DwellEndTakesNext :
    (auditing 4).audit.run = some (audit 4) ∧ (audit 4).under = some 0 ∧ (audit 4).dwell ≤ (audit 4).periods
      ∧ NextTested (auditing 4) 5 (fun e => 0 < e) 2 := by
  unfold NextTested Skips
  decide
theorem witness_AuditCompletes_last :
    let run := { audit 4 with under := some 2 }
    run.dwell ≤ run.periods ∧ (∀ e, 2 < e → inMask run.mask e = true → Skips (auditing 4) e)
      ∧ (auditing 4).command.running = some auditRunning := by
  unfold Skips
  decide
theorem witness_AuditCompletes_none_left :
    let run := { audit 0 with under := none }
    run.under = none ∧ ∀ e, inMask run.mask e = true → (Tab.all AuditResult.pass : Tab 24 AuditResult).get e ≠ .notTested := by
  decide
theorem witness_DrainingIsSendingInOrder :
    let s := { up with command := { up.command with
      queue := [queued 31 16 [0, 0, 16], queued 32 22 [1], queued 33 17 [0, 0, 1, 0, 1, 4], queued 34 0 []]
      replies := [held 3, held 10] } }
    ringConnected s = true ∧ s.command.running = none ∧ s.command.queue.length ≤ 4
      ∧ ((heldRecords s.command).map Record.seq).Nodup
      ∧ ∀ r ∈ s.command.queue, r.status = .queued ∧ r.result = none ∧ r.data = [] ∧ r.params.length ≤ 64
        ∧ r.code ≠ 15 ∧ r.code ≠ 18 ∧ r.code ≠ 21
        ∧ ¬ (r.code = 20 ∧ r.params.length = 4 ∧ r.params.head? = some 8) := by decide
theorem witness_ThermalConditionMoves :
    blocksRun { up with ring := { up.ring with supplyOk := false } } = false ∧ blocksRun up = true ∧ up.output.thermal = .cool ∧ up.audit.run = none ∧ up.command.running = none := by decide
theorem witness_ThermalConditionMoves_abort :
    let s := { auditing 2 with output := { (auditing 2).output with thermal := .warm } }
    blocksRun s = true ∧ s.output.thermal = .warm ∧ s.audit.run = some (audit 2) ∧ (audit 2).under = some 0
      ∧ s.command.running = some auditRunning ∧ (135 : Int) ≥ 135 := by decide
theorem witness_InitialisationEnds : blocksRun State.reset = true ∧ State.reset.ring.bypass = .engaged := by decide

/-! Commands. -/

theorem witness_ParameterBlocksDecode :
    CmdOk (.setGroups [1, 63]) ∧ CmdOk (.writePatch 47 (some { entry0 with fine := some 239 }))
      ∧ CmdOk (.writeProfile 14 (some profile6)) ∧ CmdOk (.writeScene 7 (some (Tab.all (some 0))))
      ∧ CmdOk (.setStream 15 true (.ticks 1) (.scene 7)) ∧ CmdOk (.startAudit 1 1 4) ∧ CmdOk (.startAudit 1 1 64)
      ∧ CmdOk .nodeReset := by
  unfold CmdOk ProfileOk
  decide
theorem witness_WrongParametersRefused :
    Takes up 9 ∧ up.command.running = none ∧ (lengthAllowed 7 ([0] : List Byte).length = false ∧ commandOf 7 9 [0] = some (.copyActive 9 [0]))
      ∧ (64 : Byte) ∈ [(64 : Byte)] ∧ ¬ [(1 : Byte), 1].Nodup ∧ commandOf 1 9 [1, 1] = some (.setGroups 9 [1, 1])
      ∧ 23 < (24 : Byte).toNat ∧ 239 < (240 : Byte).toNat ∧ (240 : Byte) ≠ 0xFF ∧ maskOf 0 0 0 = 0
      ∧ (0 : BitVec 16) ∈ wordsOf [0, 0, 0, 1] ∧ ¬ ((wordsOf [0, 2, 0, 2, 0, 1]).take 2).Pairwise (· < ·) :=
  ⟨takes_auditing.2, by decide⟩
theorem witness_WrongParametersRefused_urgent :
    Takes (auditing 2) 9 ∧ (auditing 2).command.running ≠ none ∧ commandOf 15 9 [0] = some (.outputsOff 9 [0])
      ∧ commandOf 18 9 [0] = some (.abortAudit 9 [0]) ∧ commandOf 21 9 [0] = some (.nodeReset 9 [0])
      ∧ commandOf 20 9 [8, 0, 1, 0] = some (.read 9 [8, 0, 1, 0]) :=
  ⟨takes_auditing.1, by decide⟩
theorem test_urgent_bad_param_aborts_nothing :
    (after (.outputsOff 9 [0]) (auditing 2)).audit = (auditing 2).audit
      ∧ (after (.outputsOff 9 [0]) (auditing 2)).output.switchOn = true := by decide

/-- Every field one step outside its range, command by command (section 11.4): each clause of WrongParametersRefused. -/
def outside : List (Byte × List Byte) :=
  [(1, [0]), (1, [64]), (1, [5, 5]), (2, [24, 0, 0]), (2, [0, 2, 0]), (2, [0, 0, 2]), (2, [0, 0, 1, 16, 0, 1, 0]),
   (2, [0, 0, 1, 0, 240, 1, 0]), (2, [0, 0, 1, 0, 0, 240, 0]), (2, [0, 0, 1, 0, 7, 7, 0]), (2, [0, 0, 1, 0, 0, 1, 8]),
   (3, [24, 0, 0, 0, 0, 0, 0]), (3, [0, 16, 0, 0, 0, 0, 0]), (3, [0, 0, 3, 0, 0, 0, 0]), (3, [0, 0, 0, 0, 0, 2, 0]),
   (3, [0, 0, 0, 0, 0, 0, 4]), (4, [0, 0]), (4, [16, 0]), (4, [1, 2]), (4, [1, 1, 0, 0, 0, 1, 0, 1]), (4, [1, 1, 0, 1, 0, 0, 0, 1]),
   (4, [1, 1, 0, 2, 0, 0, 0, 1, 0, 1, 0, 1, 0, 1]), (5, [0, 0]), (5, [8, 0]), (5, [1, 1]), (6, [8, 0]), (6, [0, 1]),
   (6, [0, 1, 0, 0, 0, 0, 0]), (6, [0, 1, 0, 0, 3, 0, 0]), (11, [16, 1, 0, 0, 0, 0]), (11, [0, 2, 0, 0, 0, 0]), (11, [0, 1, 0, 0, 3, 0]),
   (11, [0, 1, 0, 0, 2, 8]), (12, [8]), (12, [0, 16]), (12, [0, 0, 0, 1, 16]), (17, [0, 0, 0, 0, 1, 4]), (17, [0, 0, 1, 0, 0, 4]),
   (17, [0, 0, 1, 0, 1, 3]), (17, [0, 0, 1, 0, 1, 65]), (20, [0, 0, 0, 0]), (20, [9, 0, 0, 0]), (20, [1, 2, 0, 0]), (20, [1, 0, 48, 0]),
   (20, [2, 0, 24, 0]), (20, [3, 0, 16, 0]), (20, [3, 0, 0, 2]), (20, [4, 0, 8, 0]), (20, [4, 0, 0, 3]), (20, [5, 0, 8, 0]),
   (20, [5, 0, 0, 4]), (20, [6, 1, 0, 0]), (20, [6, 0, 24, 0]), (20, [7, 0, 16, 0]), (20, [8, 0, 1, 0]), (20, [8, 0, 0, 1])]

theorem test_outside_refused :
    (outside.all fun x => match parse x.1 x.2 with | .error e => e == .badParam | .ok _ => false) = true := by decide

/-- Every field at the ends of its range. -/
def within : List (Byte × List Byte) :=
  [(1, []), (1, [1, 63]), (2, [23, 1, 0]), (2, [0, 0, 1, 15, 239, 0xFF, 7]), (2, [0, 0, 1, 0, 0, 239, 0]), (3, [23, 15, 2, 255, 255, 1, 3]),
   (4, [1, 0]), (4, [15, 1, 255, 1, 0, 1, 255, 255]), (5, [7, 0]), (6, [7, 0]), (6, [0, 1, 0, 0, 1, 0, 0]), (11, [15, 1, 255, 255, 2, 7]),
   (12, [7]), (12, [7, 15]), (12, [7, 0, 0, 0]), (12, [7, 0, 0, 0, 15]), (13, [0, 0, 0]), (17, [0, 0, 1, 0, 1, 4]), (17, [0, 0, 1, 0, 1, 64]),
   (19, [0, 0]), (20, [1, 1, 47, 0]), (20, [3, 0, 15, 1]), (20, [4, 1, 7, 2]), (20, [5, 1, 7, 3]), (20, [6, 0, 23, 0]), (20, [7, 0, 15, 0]),
   (20, [8, 0, 0, 0])]

theorem test_within_accepted : (within.all fun x => match parse x.1 x.2 with | .error _ => false | .ok _ => true) = true := by decide

theorem witness_DuplicatesIgnored :
    let s := { up with command := { up.command with replies := [held 9] } }
    ringConnected s = true ∧ commandOf 15 9 [] = some (.outputsOff 9 []) ∧ ∃ r ∈ heldRecords s.command, r.seq = 9 := by decide
theorem witness_NormalsQueued :
    let s := { auditing 2 with command := { (auditing 2).command with queue := [queued 1 7 [], queued 2 7 [], queued 3 7 []] } }
    ringConnected s = true ∧ commandOf 7 9 [] = some (.copyActive 9 []) ∧ SeqFree s.command 9 ∧ s.command.running ≠ none
      ∧ s.command.queue.length < 4 := by
  unfold SeqFree
  decide
theorem witness_NormalsRefused :
    let s := { auditing 2 with command := { (auditing 2).command with
      queue := [queued 1 7 [], queued 2 7 [], queued 3 7 [], queued 4 7 []] } }
    ringConnected s = true ∧ SeqFree s.command 9 ∧ s.command.running ≠ none ∧ 4 ≤ s.command.queue.length := by
  unfold SeqFree
  decide
theorem witness_SetGroupsReplaces : Ready up 9 ∧ CmdOk (.setGroups []) ∧ CmdOk (.setGroups [63, 1, 7, 9]) :=
  ⟨ready_up, by unfold CmdOk; decide⟩
theorem witness_TableWritesStage :
    Ready (edited tables) 9 ∧ ¬ Armed (edited tables) ∧ CmdOk (.writePatch 0 none)
      ∧ CmdOk (.writeProfile 0 (some profile6)) ∧ CmdOk (.writeScene 7 (some (Tab.all (some 65535)))) :=
  ⟨ready_edited.1, ready_edited.2, by unfold CmdOk ProfileOk; decide⟩
theorem witness_ArmedRefusesTableWrites : Ready armed 9 ∧ Armed armed ∧ CmdOk (.writePatch 47 (some entry0)) :=
  ⟨ready_armed.1, ready_armed.2, by unfold CmdOk; decide⟩
theorem witness_CopyActiveAndDisarm : Ready armed 9 ∧ Armed armed ∧ Ready (edited tables) 9 ∧ ¬ Armed (edited tables) :=
  ⟨ready_armed.1, ready_armed.2, ready_edited.1, ready_edited.2⟩

/-- A set whose key 18 names a curve that is not defined (the example of section 7.6), and sets that fail in the other steps. -/
theorem witness_ValidationFindsFirst :
    let o := up.target.overrides
    let r := up.streams
    let bad (c : Fin 8) (p : Fin 16) : TableSet :=
      { TableSet.reset with
        patch := TableSet.reset.patch.put 18 (some { entry0 with curve := c })
        config := TableSet.reset.config.put 7 { (TableSet.reset.config.get 7) with profile := p } }
    (validate (bad 0 0) o r = none)
      ∧ (validate (bad 6 4) o r).map Invalid.table = some .patch ∧ (validate (bad 0 4) o r).map Invalid.table = some .channel
      ∧ (validate (bad 0 0) (o.put 5 (some { origin := .command, level := 0, profile := some 4 })) r).map Invalid.table
        = some .override
      ∧ (validate (bad 0 0) o (r.put 2 { StreamRecord.reset with policy := .scene 1 })).map Invalid.table = some .stream := by
  decide
theorem not_refs : ¬ RefsDefined { TableSet.reset with patch := TableSet.reset.patch.put 18 (some { entry0 with curve := 6 }) }
    up.target.overrides up.streams := by
  intro h
  have undefined := h.1 18 { entry0 with curve := 6 } (by decide)
  revert undefined
  decide
theorem witness_ArmValidates :
    (Ready armed 9 ∧ Armed armed)
      ∧ Ready (edited { TableSet.reset with patch := TableSet.reset.patch.put 18 (some { entry0 with curve := 6 }) }) 9
      ∧ ¬ RefsDefined { TableSet.reset with patch := TableSet.reset.patch.put 18 (some { entry0 with curve := 6 }) }
        up.target.overrides up.streams :=
  ⟨ready_armed, by unfold Ready SeqFree; decide, not_refs⟩
theorem witness_CommitNowCommits :
    Ready armed 9 ∧ Armed armed ∧ Ready (edited tables) 9 ∧ (edited tables).staging.state = .edited
      ∧ RefsDefined tables armed.target.overrides armed.streams ∧ Ready up 9 ∧ up.staging.state = .clean :=
  ⟨ready_armed.1, ready_armed.2, ready_edited.1, by decide, refs_tables, ready_up, by decide⟩
theorem named_scene4 (s : State) (h : s.active = tables) (h' : ¬ Armed s) :
    ∀ n, LossPolicy.scene 4 = .scene n → DefinedWhereNeeded s fun t => t.scenes.get n ≠ none := by
  rintro n ⟨⟩
  exact ⟨by rw [h]; decide, fun a => absurd a h'⟩
theorem not_armed_lit : ¬ Armed lit := by rintro ⟨e, h⟩; cases h
theorem witness_SetStreamRecords :
    Ready lit 9 ∧ TimeoutSetting.ticks 1 ≠ .ticks 0
      ∧ (∀ n, LossPolicy.scene 4 = .scene n → DefinedWhereNeeded lit fun t => t.scenes.get n ≠ none)
      ∧ ¬ (∀ n, LossPolicy.scene 7 = .scene n → DefinedWhereNeeded lit fun t => t.scenes.get n ≠ none) :=
  ⟨ready_lit, by decide, named_scene4 lit rfl not_armed_lit, fun h => absurd (h 7 rfl).1 (by decide)⟩
theorem witness_SetStreamDisables :
    Ready lit 9 ∧ TimeoutSetting.auto ≠ .ticks 0 ∧ (lit.streams.get 0).state ≠ .disabled
      ∧ (∀ n, LossPolicy.scene 4 = .scene n → DefinedWhereNeeded lit fun t => t.scenes.get n ≠ none) :=
  ⟨ready_lit, by decide, by decide, named_scene4 lit rfl not_armed_lit⟩
theorem witness_SetStreamChangesLoss :
    let s := withStream { StreamRecord.reset with state := .lost, policy := .release }
    Ready s 9 ∧ (s.streams.get 0).state = .lost ∧ LossPolicy.scene 4 ≠ (s.streams.get 0).policy
      ∧ (∀ n, LossPolicy.scene 4 = .scene n → DefinedWhereNeeded s fun t => t.scenes.get n ≠ none)
      ∧ Ready lit 9 ∧ (lit.streams.get 0).state = .live
      ∧ effectiveTimeout { lit.streams.get 0 with timeout := .ticks 5, policy := .scene 4 } ≤ (lit.streams.get 0).ticks :=
  ⟨by unfold Ready SeqFree; decide, by decide, by decide,
    named_scene4 _ rfl (by rintro ⟨e, h⟩; cases h), ready_lit, by decide, by decide⟩
theorem witness_RecallSceneSetsOverrides :
    Ready lit 9 ∧ lit.active.scenes.get 4 ≠ none ∧ profileOf lit.active 0 ≠ none ∧ lit.active.scenes.get 7 = none
      ∧ profileOf lit.active 15 = none ∧ sceneLevel lit.active 4 0 = some 10000 :=
  ⟨ready_lit, by decide⟩
theorem witness_ReleaseReexamines :
    let s := { withStream { StreamRecord.reset with state := .lost, policy := .scene 4 } with
      target := { lit.target with overrides := lit.target.overrides.put 0 (some
        { origin := .command, level := 1, profile := none }) } }
    Ready s 9 ∧ lossOverride s 0 = some { origin := .loss 0, level := 10000, profile := none } ∧ lossOverride s 1 = none := by
  unfold Ready SeqFree
  decide
theorem witness_OutputsOnAndSetCeiling : Ready lit 9 := ready_lit
theorem witness_UrgentCommandsAbort :
    Takes up 9 ∧ up.audit.run = none ∧ up.command.running = none
      ∧ Takes (auditing 2) 9 ∧ (auditing 2).audit.run = some (audit 2) ∧ (audit 2).under = some 0
      ∧ (auditing 2).command.running = some auditRunning :=
  ⟨takes_auditing.2, by decide, by decide, takes_auditing.1, by decide⟩
theorem witness_ClearFaultsClears : Ready lit 9 := ready_lit
theorem witness_StartAuditBegins :
    Ready up 9 ∧ CmdOk (.startAudit 5 20000 4) ∧ up.output.switchOn = true ∧ up.output.thermal ≠ .hot
      ∧ NextTested up 5 (fun _ => True) 0 :=
  ⟨ready_up, by unfold CmdOk NextTested Skips; decide⟩
theorem witness_StartAuditBegins_skipped :
    let s := { up with
      active := { up.active with config := Tab.all { (up.active.config.get 0) with faultAction := .forceOff } }
      output := { up.output with monitors := Tab.all { count := 0, pending := .openLoad, latch := some .openLoad } } }
    Ready s 9 ∧ (∀ e, inMask 5 e = true → Skips s e) ∧ s.output.switchOn = true := by
  unfold Ready SeqFree Skips
  decide
theorem witness_StartAuditBegins_refused :
    Ready { up with output := OutputStage.reset .cool } 9 ∧ { up with output := OutputStage.reset .cool }.output.switchOn = false := by
  unfold Ready SeqFree
  decide
theorem witness_ReadReports :
    Ready lit 9 ∧ lit.active.patch.get 0 = some entry0 ∧ lit.active.patch.get 47 = none ∧ profileOf lit.active 1 = none
      ∧ profileOf lit.active 0 = some profile0 ∧ ProfileOk profile0 ∧ curveOf lit.active 1 = none
      ∧ lit.active.scenes.get 7 = none ∧ lit.active.scenes.get 4 ≠ none :=
  ⟨ready_lit, by unfold ProfileOk; decide⟩
theorem witness_ReadReports_curve :
    curveOf { TableSet.reset with curves := Tab.all (some curve3) } 7 = some curve3 := by decide
theorem witness_NodeStatusReadAtOnce : Takes (auditing 2) 9 ∧ (auditing 2).command.groups.length ≤ 4 :=
  ⟨takes_auditing.1, by decide⟩
theorem witness_NodeResetResets : Takes (auditing 2) 9 := takes_auditing.1
theorem witness_CurveArithmetic :
    { TableSet.reset with curves := Tab.all (some curve3) }.curves.get 6 = some curve3 ∧ (65535 : Level) = 65535
      ∧ (40000 : Level) ≠ 65535 ∧ (40000 : Level).toNat / 4096 = (9 : Fin 16).val := by decide
theorem witness_DriveFollowsDutyAndPhase : blocksRun lit = true ∧ 0 < (lit.output.levels.get 0).toNat := by decide

end Sys2Proof.Tests
end

section
/-! PROOF. The arithmetic of the curves (O57): which points a curve number names in a table set, and the line between two
neighbouring points, truncated toward zero. -/

namespace Sys2Proof.Machine

/-! ### A curve number in a table set -/

@[simp] theorem curveOf_zero (t : TableSet) : curveOf t 0 = none := rfl

@[simp] theorem curveOf_succ (t : TableSet) (n : Fin 7) : curveOf t n.succ = t.curves.get n := rfl

@[simp] theorem curveDefined_zero (t : TableSet) : curveDefined t 0 = true := rfl

theorem curveDefined_succ_iff (t : TableSet) (n : Fin 7) :
    curveDefined t n.succ = true ↔ t.curves.get n ≠ none := by
  simp [curveDefined, Option.isSome_iff_ne_none]

theorem curvedValue_of_none {t : TableSet} {n : Fin 8} (h : curveOf t n = none) (x : Level) : curvedValue t n x = x := by
  simp [curvedValue, h]

theorem curvedValue_of_some {t : TableSet} {n : Fin 8} {p : Curve} (h : curveOf t n = some p) (x : Level) :
    curvedValue t n x = applyCurve p x := by
  simp [curvedValue, h]

/-! ### The line between two points -/

/-- The value `f` parts of 4096 along the way from one point to the next, truncated toward zero (R6). -/
def lineAt (low high f : Int) : Int := low + ((high - low) * f).tdiv 4096

/-- The same segment run through upside down: truncation toward zero is symmetric, so a falling segment mirrors a rising one. -/
theorem lineAt_neg (low high f : Int) : lineAt (-low) (-high) f = -lineAt low high f := by
  have mirrored : (-high - -low) * f = -((high - low) * f) := by ring
  rw [lineAt, lineAt, mirrored, Int.neg_tdiv]
  ring

/-- On a rising segment the line stays between its two ends. -/
theorem lineAt_mem_of_le {low high f : Int} (rising : low ≤ high) (f_nonneg : 0 ≤ f) (f_le : f ≤ 4096) :
    low ≤ lineAt low high f ∧ lineAt low high f ≤ high := by
  have rise_nonneg : 0 ≤ (high - low) * f := mul_nonneg (by omega) f_nonneg
  have rise_le : (high - low) * f ≤ (high - low) * 4096 := mul_le_mul_of_nonneg_left f_le (by omega)
  rw [lineAt, Int.tdiv_eq_ediv_of_nonneg rise_nonneg]
  omega

/-- Rising or falling, the line stays between its two ends. -/
theorem lineAt_mem (low high : Int) {f : Int} (f_nonneg : 0 ≤ f) (f_le : f ≤ 4096) :
    min low high ≤ lineAt low high f ∧ lineAt low high f ≤ max low high := by
  rcases le_total low high with rising | falling
  · have := lineAt_mem_of_le rising f_nonneg f_le
    omega
  · have mirrored := lineAt_mem_of_le (neg_le_neg falling) f_nonneg f_le
    rw [lineAt_neg] at mirrored
    omega

/-! ### The curved value through 17 points -/

theorem applyCurve_top (p : Curve) : applyCurve p 65535 = p.get 16 := by
  simp [applyCurve]

/-- Below 65535 the curved value is the line of the segment that holds the raw value, as a word. -/
theorem applyCurve_eq_ofInt {p : Curve} {x : Level} {k : Fin 16} (below_top : x ≠ 65535) (segment : x.toNat / 4096 = k.val) :
    applyCurve p x
      = BitVec.ofInt 16 (lineAt (p.get k.castSucc).toNat (p.get k.succ).toNat (x.toNat % 4096)) := by
  have first : Fin.ofNat 17 (x.toNat / 4096) = k.castSucc := by
    ext
    simp only [Fin.val_ofNat, Fin.val_castSucc]
    omega
  have second : Fin.ofNat 17 (x.toNat / 4096 + 1) = k.succ := by
    ext
    simp only [Fin.val_ofNat, Fin.val_succ]
    omega
  simp only [applyCurve, lineAt, if_neg below_top, first, second, Int.natCast_emod, Nat.cast_ofNat]

/-- No wrap: the line lies between two words, so the word it is written to holds it. -/
theorem applyCurve_toNat {p : Curve} {x : Level} {k : Fin 16} (below_top : x ≠ 65535) (segment : x.toNat / 4096 = k.val) :
    ((applyCurve p x).toNat : Int) = lineAt (p.get k.castSucc).toNat (p.get k.succ).toNat (x.toNat % 4096) := by
  have f_nonneg : (0 : Int) ≤ x.toNat % 4096 := by omega
  have f_le : (x.toNat % 4096 : Int) ≤ 4096 := by omega
  have inside := lineAt_mem (p.get k.castSucc).toNat (p.get k.succ).toNat f_nonneg f_le
  have low_word := (p.get k.castSucc).isLt
  have high_word := (p.get k.succ).isLt
  rw [applyCurve_eq_ofInt below_top segment, BitVec.toNat_ofInt]
  omega

end Sys2Proof.Machine

open Sys2Proof Sys2Proof.Machine

/-- Settles O57: a curve number by its cell, and below 65535 the line of the raw value's segment with its bounds. -/
theorem curveArithmetic : Obligations.CurveArithmetic := by
  intro p x
  refine ⟨?numbers, ?top, ?below⟩
  case numbers =>
    intro t
    refine ⟨curvedValue_of_none (curveOf_zero t) x, curveOf_zero t, curveDefined_zero t, fun n => ?_⟩
    exact ⟨curveOf_succ t n, curveDefined_succ_iff t n,
      fun points => curvedValue_of_some ((curveOf_succ t n).trans points) x⟩
  case top =>
    rintro rfl
    exact applyCurve_top p
  case below =>
    intro below_top k segment f low high
    have line : ((applyCurve p x).toNat : Int) = lineAt low high f := applyCurve_toNat below_top segment
    have f_nonneg : 0 ≤ f := by omega
    have f_le : f ≤ 4096 := by omega
    rw [line]
    exact ⟨rfl, lineAt_mem low high f_nonneg f_le⟩
end

section
/-! PROOF. The effective timeout of a stream (O59), one equation for each row of the table of R65. -/

namespace Sys2Proof.Machine

theorem effectiveTimeout_of_ticks {r : StreamRecord} {n : BitVec 16} (explicit : r.timeout = .ticks n) :
    effectiveTimeout r = n.toNat := by
  simp only [effectiveTimeout, explicit]

theorem effectiveTimeout_of_auto_unknown {r : StreamRecord} (auto : r.timeout = .auto) (unknown : r.measured = 0) :
    effectiveTimeout r = 20000 := by
  simp only [effectiveTimeout, auto, if_pos unknown]

theorem effectiveTimeout_of_auto_known {r : StreamRecord} (auto : r.timeout = .auto) (known : 0 < r.measured) :
    effectiveTimeout r = min 20000 (max 200 (4 * r.measured)) := by
  simp only [effectiveTimeout, auto, if_neg known.ne']

end Sys2Proof.Machine

open Sys2Proof Sys2Proof.Machine

/-- Settles O59: the three rows of R65, the row of a known period split by where four periods lie about 200 and 20000. -/
theorem effectiveTimeoutFormed : Obligations.EffectiveTimeoutFormed := by
  intro r
  refine ⟨fun n => effectiveTimeout_of_ticks, effectiveTimeout_of_auto_unknown, fun auto known => ?_⟩
  rw [effectiveTimeout_of_auto_known auto known]
  refine ⟨?raised, ?lowered, ?between⟩
  case raised =>
    intro below
    rw [max_eq_left below.le]
    rfl
  case lowered =>
    intro above
    exact min_eq_left (le_max_of_le_right above.le)
  case between =>
    intro at_least at_most
    rw [max_eq_right at_least, min_eq_right at_most]
end

section
/-! PROOF. Validation (O42): what the check of one item finds, which check reports the failure of a whole set, and the items
that stand before it in the order of R122. -/

namespace Sys2Proof.Machine

/-! ### The check of one item: when it passes, and what it reports -/

theorem invalidKey_eq_none_iff (t : TableSet) (k : Key) :
    invalidKey t k = none ↔ ∀ e, t.patch.get k = some e → curveDefined t e.curve = true := by
  cases entry : t.patch.get k with
  | none => simp [invalidKey, entry]
  | some e => simp [invalidKey, entry]

theorem invalidKey_eq_some_iff (t : TableSet) (k : Key) (v : Invalid) :
    invalidKey t k = some v
      ↔ ∃ e, t.patch.get k = some e ∧ curveDefined t e.curve = false ∧ v = ⟨.patch, k, .curve, e.curve⟩ := by
  cases entry : t.patch.get k with
  | none => simp [invalidKey, entry]
  | some e => simp [invalidKey, entry, eq_comm (a := v)]

theorem invalidConfig_eq_none_iff (t : TableSet) (c : Channel) :
    invalidConfig t c = none ↔ profileOf t (t.config.get c).profile ≠ none := by
  simp [invalidConfig, Option.isSome_iff_ne_none]

theorem invalidConfig_eq_some_iff (t : TableSet) (c : Channel) (v : Invalid) :
    invalidConfig t c = some v
      ↔ profileOf t (t.config.get c).profile = none ∧ v = ⟨.channel, c, .profile, (t.config.get c).profile⟩ := by
  simp [invalidConfig, eq_comm (a := v)]

/-- Of the standing overrides only those of COMMAND origin that name a profile are examined. -/
theorem invalidOverride_of_command {t : TableSet} {o : Tab 24 (Option Override)} {c : Channel} {x : Override} {p : Fin 16}
    (held : o.get c = some x) (command : x.origin = .command) (named : x.profile = some p) :
    invalidOverride t o c = if (profileOf t p).isSome then none else some ⟨.override, c, .profile, p⟩ := by
  obtain ⟨origin, level, profile⟩ := x
  subst command named
  simp only [invalidOverride, held]

/-- The check of an override either examines a COMMAND record with a profile or passes it over. -/
theorem invalidOverride_cases (t : TableSet) (o : Tab 24 (Option Override)) (c : Channel) :
    (∃ x p, o.get c = some x ∧ x.origin = .command ∧ x.profile = some p)
      ∨ (¬ ∃ x p, o.get c = some x ∧ x.origin = .command ∧ x.profile = some p) ∧ invalidOverride t o c = none := by
  unfold invalidOverride
  split
  case h_1 level p held => exact .inl ⟨_, p, held, rfl, rfl⟩
  case h_2 _ passed_over =>
    refine .inr ⟨?_, rfl⟩
    rintro ⟨⟨origin, level, profile⟩, p, held, command, named⟩
    subst command named
    exact passed_over level p held

theorem invalidOverride_eq_none_iff (t : TableSet) (o : Tab 24 (Option Override)) (c : Channel) :
    invalidOverride t o c = none
      ↔ ∀ x p, o.get c = some x → x.origin = .command → x.profile = some p → profileOf t p ≠ none := by
  rcases invalidOverride_cases t o c with ⟨x, p, held, command, named⟩ | ⟨absent, passed⟩
  · rw [invalidOverride_of_command held command named, held]
    constructor
    · rintro passed y q ⟨⟩ - named_q
      obtain rfl : p = q := Option.some.inj (named.symm.trans named_q)
      simpa using passed
    · intro defined
      simpa [Option.isSome_iff_ne_none] using defined x p rfl command named
  · exact ⟨fun _ x p held command named => (absent ⟨x, p, held, command, named⟩).elim, fun _ => passed⟩

theorem invalidOverride_eq_some_iff (t : TableSet) (o : Tab 24 (Option Override)) (c : Channel) (v : Invalid) :
    invalidOverride t o c = some v
      ↔ ∃ x p, o.get c = some x ∧ x.origin = .command ∧ x.profile = some p ∧ profileOf t p = none
          ∧ v = ⟨.override, c, .profile, p⟩ := by
  rcases invalidOverride_cases t o c with ⟨x, p, held, command, named⟩ | ⟨absent, passed⟩
  · simp [invalidOverride_of_command held command named, held, command, named, eq_comm (a := v)]
  · rw [passed]
    exact ⟨nofun, fun ⟨x, p, held, command, named, _⟩ => (absent ⟨x, p, held, command, named⟩).elim⟩

theorem invalidStream_eq_none_iff (t : TableSet) (r : Tab 16 StreamRecord) (i : StreamId) :
    invalidStream t r i = none ↔ ∀ n, (r.get i).policy = .scene n → t.scenes.get n ≠ none := by
  cases policy : (r.get i).policy with
  | hold => simp [invalidStream, policy]
  | release => simp [invalidStream, policy]
  | scene n => simp [invalidStream, policy, Option.isSome_iff_ne_none]

theorem invalidStream_eq_some_iff (t : TableSet) (r : Tab 16 StreamRecord) (i : StreamId) (v : Invalid) :
    invalidStream t r i = some v
      ↔ ∃ n, (r.get i).policy = .scene n ∧ t.scenes.get n = none ∧ v = ⟨.stream, i, .scene, n⟩ := by
  cases policy : (r.get i).policy with
  | hold => simp [invalidStream, policy]
  | release => simp [invalidStream, policy]
  | scene n => simp [invalidStream, policy, eq_comm (a := v)]

/-! ### The four steps in a row -/

theorem validate_eq_none_iff (t : TableSet) (o : Tab 24 (Option Override)) (r : Tab 16 StreamRecord) :
    validate t o r = none
      ↔ (∀ k, invalidKey t k = none) ∧ (∀ c, invalidConfig t c = none) ∧ (∀ c, invalidOverride t o c = none)
          ∧ ∀ i, invalidStream t r i = none := by
  simp only [validate, channels, ← Fin.findSome?_eq_findSome?_finRange, Option.or_eq_none_iff, Fin.findSome?_eq_none_iff]

/-- The failure reported is that of the lowest item of its step, and every step before it passes (R122). -/
theorem validate_eq_some_iff (t : TableSet) (o : Tab 24 (Option Override)) (r : Tab 16 StreamRecord) (v : Invalid) :
    validate t o r = some v
      ↔ (∃ k, invalidKey t k = some v ∧ ∀ j < k, invalidKey t j = none)
        ∨ (∀ k, invalidKey t k = none)
          ∧ ((∃ c, invalidConfig t c = some v ∧ ∀ d < c, invalidConfig t d = none)
            ∨ (∀ c, invalidConfig t c = none)
              ∧ ((∃ c, invalidOverride t o c = some v ∧ ∀ d < c, invalidOverride t o d = none)
                ∨ (∀ c, invalidOverride t o c = none)
                  ∧ ∃ i, invalidStream t r i = some v ∧ ∀ j < i, invalidStream t r j = none)) := by
  simp only [validate, channels, ← Fin.findSome?_eq_findSome?_finRange, Option.or_eq_some_iff, Fin.findSome?_eq_some_iff,
    Fin.findSome?_eq_none_iff]

/-- Validation passes exactly a set in which every reference is defined (R122). -/
theorem validate_eq_none_iff_refsDefined (t : TableSet) (o : Tab 24 (Option Override)) (r : Tab 16 StreamRecord) :
    validate t o r = none ↔ RefsDefined t o r := by
  simp only [validate_eq_none_iff, RefsDefined, invalidKey_eq_none_iff, invalidConfig_eq_none_iff,
    invalidOverride_eq_none_iff, invalidStream_eq_none_iff, Option.isSome_iff_ne_none]

end Sys2Proof.Machine

open Sys2Proof Sys2Proof.Machine

/-- Settles O42: one case for each step of R122 that can report the failure; in it the clauses of the other three tables do
not apply. -/
theorem validationFindsFirst : Obligations.ValidationFindsFirst := by
  intro t o r
  refine ⟨validate_eq_none_iff_refsDefined t o r, fun v failed => ?_⟩
  simp only [validate_eq_some_iff, invalidKey_eq_none_iff, invalidConfig_eq_none_iff, invalidOverride_eq_none_iff,
    invalidStream_eq_none_iff] at failed
  rcases failed with ⟨k, found, below⟩ | ⟨keys, ⟨c, found, below⟩ | ⟨configs, ⟨c, found, below⟩ | ⟨overrides, i, found, below⟩⟩⟩
  case inl =>
    obtain ⟨e, entry, undefined, rfl⟩ := (invalidKey_eq_some_iff t k v).mp found
    exact ⟨fun _ => ⟨rfl, k, e, rfl, entry, rfl, undefined, below⟩, fun other => absurd rfl other, nofun, nofun, nofun⟩
  case inr.inl =>
    obtain ⟨undefined, rfl⟩ := (invalidConfig_eq_some_iff t c v).mp found
    exact ⟨nofun, fun _ => keys, fun _ => ⟨rfl, c, rfl, rfl, undefined, below⟩, nofun, nofun⟩
  case inr.inr.inl =>
    obtain ⟨x, p, held, command, named, undefined, rfl⟩ := (invalidOverride_eq_some_iff t o c v).mp found
    exact ⟨nofun, fun _ => keys, nofun,
      fun _ => ⟨rfl, c, x, p, rfl, held, command, named, rfl, undefined, configs, below⟩, nofun⟩
  case inr.inr.inr =>
    obtain ⟨n, policy, undefined, rfl⟩ := (invalidStream_eq_some_iff t r i v).mp found
    exact ⟨nofun, fun _ => keys, nofun, nofun,
      fun _ => ⟨rfl, i, n, rfl, policy, rfl, undefined, configs, overrides, below⟩⟩
end

section
/-! PROOF. The machine (O1, O2): what each row of the table answers, and the induction over everything that can reach the node.
A property of the state is `Kept` where each part of a row keeps it; then every row and every step keeps it. -/

namespace Sys2Proof.Machine

/-! ### The rows -/

/-- A frame row brings its characters. -/
theorem exec_frameOf {c : Instr} {k : Byte} {l : BitVec 16} {b : List Byte} {crc : BitVec 16}
    (frame : frameOf c = some (k, l, b, crc)) (s : State) : exec c s = .next (frameRow k l b crc s) := by
  cases c
  case levelFrame | commandFrame | pollFrame | enumerateFrame | syncFrame | healthFrame | unknownKindFrame =>
    simp only [frameOf, Option.some.injEq, Prod.mk.injEq] at frame
    obtain ⟨rfl, rfl, rfl, rfl⟩ := frame
    rfl
  all_goals simp only [frameOf, reduceCtorEq] at frame

/-- A command row is the taking of the command of its code. -/
theorem exec_commandOf {row : Instr} {code seq : Byte} {params : List Byte} (named : commandOf code seq params = some row)
    (s : State) : exec row s = .next (commandRow code seq params s) := by
  unfold commandOf at named
  repeat
    obtain ⟨rfl, same⟩ | ⟨-, named⟩ := ite_eq_iff.mp named
    · rw [← Option.some.inj same]; rfl
  exact nomatch named

/-! ### How rows move the ring interface -/

/-- The ring interface in its ranges (R184, R188, R189). -/
def RingOk (r : Ring) : Prop :=
  r.address.toNat ≤ 250 ∧ (r.bypass = .disengaged → r.supplyOk = true ∧ r.resetnHigh = true)
    ∧ (r.bypass = .engaged → r.rx = .hunt) ∧ r.holdLeft ≤ 100

/-- What characters and line events do to the ring interface: supply, reset line and bypass stay, and it stays in its ranges. -/
structure RingMoved (old new : Ring) : Prop where
  bypass : new.bypass = old.bypass
  supply : new.supplyOk = old.supplyOk
  resetn : new.resetnHigh = old.resetnHigh
  ranges : RingOk old → RingOk new

theorem RingMoved.of {old new : Ring} (bypass : new.bypass = old.bypass) (supply : new.supplyOk = old.supplyOk)
    (resetn : new.resetnHigh = old.resetnHigh) (address : new.address = old.address)
    (rx : old.bypass = .engaged → old.rx = .hunt → new.rx = .hunt) (hold : new.holdLeft ≤ old.holdLeft) : RingMoved old new :=
  ⟨bypass, supply, resetn, fun ⟨range, up, hunt, most⟩ => ⟨by rwa [address], by rwa [bypass, supply, resetn],
    fun engaged => have engaged := bypass.symm.trans engaged; rx engaged (hunt engaged), hold.trans most⟩⟩

theorem disengaged_of_hears {s : State} (hears : ringConnected s = true) : s.ring.bypass ≠ .engaged := by
  intro engaged
  simp [ringConnected, engaged] at hears

/-- A byte within a frame moves neither the receiver nor the address. -/
theorem frameByte_moved {s : State} (b : Byte) (within : s.ring.byteCount ≠ 4 + s.ring.length.toNat) :
    RingMoved s.ring (frameByte b s).ring := by
  unfold frameByte
  simp only [within, if_false]
  repeat' split
  all_goals exact .of rfl rfl rfl rfl (fun _ hunt => hunt) (Nat.sub_le _ _)

/-! ### Properties that every row keeps -/

/-- What a frame row does keeps the property: what the ring interface alone does, an arrival, the taking of a command, a commit. -/
structure KeptByFrames (P : State → Prop) : Prop where
  ring : ∀ s r, RingMoved s.ring r → P s → P { s with ring := r }
  arrival : ∀ i slots s, (s.streams.get i).state ≠ .disabled → P s → P (arrival i slots s)
  command : ∀ seq code params s, P s → P (takeCommand seq code params s)
  commit : ∀ s e, s.staging.state = .armed e → P s → P (commit s)

namespace KeptByFrames

variable {P : State → Prop} (kept : KeptByFrames P)
include kept

theorem send (x : LineSym) (s : State) (h : P s) : P (send x s) :=
  kept.ring s _ (.of rfl rfl rfl rfl (fun _ hunt => hunt) (Nat.sub_le _ _)) h

theorem levelBody (l : BitVec 16) (b : List Byte) (s : State) (h : P s) : P (levelBody l b s) := by
  unfold Machine.levelBody
  split
  · split
    · split
      · next accepted =>
        obtain ⟨-, -, -, -, on⟩ := accepted
        exact kept.arrival _ _ s (by simpa [enabled] using on) h
      · exact h
    · exact h
  · exact h

theorem commandBody (l : BitVec 16) (b : List Byte) (s : State) (h : P s) : P (commandBody l b s) := by
  unfold Machine.commandBody
  split
  · split
    · exact kept.command _ _ _ s h
    · exact h
  · exact h

theorem enumerateBody (l : BitVec 16) (b : List Byte) (s : State) (h : P s) : P (enumerateBody l b s) := by
  unfold Machine.enumerateBody
  split
  · next c flags _ =>
    split
    · next range =>
      refine kept.ring s _ ⟨rfl, rfl, rfl, fun ⟨_, up, hunt, most⟩ => ⟨?_, up, hunt, most⟩⟩ h
      dsimp only
      split
      · next free =>
        have small := free.1
        rw [BitVec.toNat_add, Nat.mod_eq_of_lt] <;> simp <;> omega
      · exact Nat.zero_le _
    · exact h
  · exact h

theorem syncBody (l : BitVec 16) (b : List Byte) (s : State) (h : P s) : P (syncBody l b s) := by
  unfold Machine.syncBody
  split
  · split
    · next armed => exact kept.commit s _ armed.2 h
    · exact h
  · exact h

/-- A frame accepted by the ring reaches one block, by its kind (R179). -/
theorem handOn (k : Byte) (l : BitVec 16) (b : List Byte) (s : State) (h : P s) : P (handOn k l b s) := by
  unfold Machine.handOn
  repeat' split
  · exact kept.levelBody l b s h
  · exact kept.commandBody l b s h
  · exact kept.enumerateBody l b s h
  · exact kept.syncBody l b s h
  · exact h

theorem frameEnd (low : Byte) (s : State) (h : P s) : P (frameEnd low s) := by
  unfold Machine.frameEnd
  dsimp only
  split
  · exact kept.handOn _ _ _ _ (kept.ring s _ (.of rfl rfl rfl rfl (fun _ _ => rfl) le_rfl) h)
  · exact kept.ring s _ (.of rfl rfl rfl rfl (fun _ _ => rfl) le_rfl) h

/-- A byte of a frame moves the ring interface alone, but for the last one, which ends the frame (R177, R179). -/
theorem frameByte (b : Byte) (s : State) (h : P s) : P (frameByte b s) := by
  by_cases last : s.ring.byteCount = 4 + s.ring.length.toNat
  · have counted := kept.send (.char (crcByteOut s.ring.plan b (lowByte s.ring.crcIn) (lowByte s.ring.crcOut))) _
      (kept.ring s { s.ring with byteCount := 5 + s.ring.length.toNat }
        (.of rfl rfl rfl rfl (fun _ hunt => hunt) le_rfl) h)
    rw [frameByte_crcLow last]
    dsimp only
    split
    · exact kept.frameEnd b _ counted
    · exact counted
  · rw [frameByte_frame b last]
    exact kept.ring s _ (frameByte_moved b last) h

theorem backToMark (s : State) (h : P s) : P (backToMark s) := by
  unfold Machine.backToMark
  split
  · next leadIn =>
    exact kept.ring s _ (.of rfl rfl rfl rfl (fun _ hunt => absurd (leadIn.symm.trans hunt) nofun) le_rfl) h
  · exact h

theorem receiveChar (b : Byte) (s : State) (h : P s) : P (receiveChar s b) := by
  have heard := kept.backToMark _ (kept.ring s { s.ring with markSeen := true }
    (.of rfl rfl rfl rfl (fun _ hunt => hunt) le_rfl) h)
  unfold Machine.receiveChar
  split
  · dsimp only
    split
    · exact kept.frameByte b _ heard
    · exact kept.send _ _ heard
  · exact kept.send _ s h

theorem receive (chars : List Byte) (s : State) (h : P s) : P (receive chars s) := by
  induction chars generalizing s with
  | nil => exact h
  | cons b chars ih => exact ih _ (kept.receiveChar b s h)

theorem clearOut (s : State) (h : P s) : P (clearOut s) :=
  kept.ring s _ (.of rfl rfl rfl rfl (fun _ hunt => hunt) le_rfl) h

theorem frameRow (k : Byte) (l : BitVec 16) (b : List Byte) (crc : BitVec 16) (s : State) (h : P s) :
    P (frameRow k l b crc s) := kept.receive _ _ (kept.clearOut s h)

theorem spaceRun (bits : Nat) (first : Bool) (s : State) (h : P s) : P (spaceRun bits first s) := by
  have sent := kept.send (.space bits) s h
  have seen := kept.ring _ { (Machine.send (.space bits) s).ring with markSeen := true }
    (.of rfl rfl rfl rfl (fun _ hunt => hunt) le_rfl) sent
  unfold Machine.spaceRun
  dsimp only
  split
  · next hears =>
    split
    · exact kept.ring _ _ (.of rfl rfl rfl rfl (fun engaged _ => absurd engaged (disengaged_of_hears hears)) le_rfl) sent
    · exact seen
  · exact sent

theorem markRun (bits : Nat) (s : State) (h : P s) : P (markRun bits s) := by
  have sent := kept.send (.mark bits) s h
  have back := kept.backToMark _ (kept.ring _ { (Machine.send (.mark bits) s).ring with markSeen := true }
    (.of rfl rfl rfl rfl (fun _ hunt => hunt) le_rfl) sent)
  unfold Machine.markRun
  dsimp only
  split
  · split
    · exact kept.ring _ _ (.of rfl rfl rfl rfl (fun _ _ => rfl) le_rfl) back
    · exact back
  · exact sent

theorem badCharacter (b : Byte) (s : State) (h : P s) : P (badCharacter b s) := by
  have sent := kept.send (.badChar b) s h
  have back := kept.backToMark _ (kept.ring _ { (Machine.send (.badChar b) s).ring with markSeen := true }
    (.of rfl rfl rfl rfl (fun _ hunt => hunt) le_rfl) sent)
  unfold Machine.badCharacter
  dsimp only
  split
  · exact kept.ring _ _ (.of rfl rfl rfl rfl (fun _ _ => rfl) le_rfl) back
  · exact sent

end KeptByFrames

/-! ### Properties that the command unit does not matter to -/

/-- Draining executes commands, and so keeps what executing one keeps (R140). -/
theorem drainQueue_induction {P : State → Prop}
    (command : ∀ s u, u.groups = s.command.groups → P s → P { s with command := u })
    (executes : ∀ seq code params s, P s → P (execute seq code params s)) (n : Nat) (s : State) (h : P s) :
    P (drainQueue n s) := by
  induction n generalizing s with
  | zero => exact h
  | succ n ih =>
    cases queue : s.command.queue with
    | nil => rwa [drainQueue_empty _ s queue]
    | cons r rest =>
      have done := executes r.seq r.code r.params _ (command s { s.command with queue := rest } rfl h)
      rw [drainQueue_cons n s r rest queue]
      dsimp only
      split
      · exact done
      · exact ih _ done

/-- Executing a command keeps what its effect keeps, its record apart (R138). -/
theorem execute_induction {P : State → Prop} (command : ∀ s u, u.groups = s.command.groups → P s → P { s with command := u })
    (effects : ∀ code params c s, parse code params = .ok c → P s → P (effect c s).1) (seq code : Byte)
    (params : List Byte) (s : State) (h : P s) : P (execute seq code params s) := by
  rcases execute_cases seq code params s with ⟨e, -, done⟩ | ⟨c, right, ⟨data, -, done⟩ | ⟨e, data, -, done⟩ | ⟨-, done⟩⟩
  · rw [done]; exact command _ _ rfl h
  · rw [done]; exact command _ _ rfl (effects _ _ c s right h)
  · rw [done]; exact command _ _ rfl (effects _ _ c s right h)
  · rw [done]; exact command _ _ rfl (effects _ _ c s right h)

/-- The property is blind to the command unit, the group set apart, and every effect keeps it. -/
structure KeptByEffects (P : State → Prop) : Prop where
  unit : ∀ s u, u.groups = s.command.groups → P s → P { s with command := u }
  effect : ∀ code params c s, parse code params = .ok c → P s → P (effect c s).1

namespace KeptByEffects

variable {P : State → Prop} (kept : KeptByEffects P)
include kept

theorem execute (seq code : Byte) (params : List Byte) (s : State) (h : P s) : P (execute seq code params s) :=
  execute_induction kept.unit kept.effect seq code params s h

theorem drain (s : State) (h : P s) : P (drain s) := drainQueue_induction kept.unit kept.execute _ s h

theorem drainIfEnded (s t : State) (h : P t) : P (drainIfEnded s t) := by
  unfold Machine.drainIfEnded
  split
  · exact kept.drain t h
  · exact h

/-- Whatever the taking of a command comes to, it keeps the property (R135, R138, R139). -/
theorem takeCommand (seq code : Byte) (params : List Byte) (s : State) (h : P s) : P (takeCommand seq code params s) := by
  have executed := kept.execute seq code params s h
  rcases takeCommand_cases seq code params s with
    ⟨-, same⟩ | ⟨-, -, urgent⟩ | ⟨-, -, -, normal⟩ | ⟨-, -, -, -, ⟨-, queued⟩ | ⟨-, full⟩⟩
  · rw [same]; exact h
  · rw [urgent]; exact kept.drainIfEnded s _ executed
  · rw [normal]; exact executed
  · rw [queued]; exact kept.unit s _ rfl h
  · rw [full]; exact kept.unit s _ rfl h

/-- The end of a dwell keeps what its closing keeps (R100, R140). -/
theorem dwellEnd (s : State) (h : P (closeDwell s)) : P (dwellEnd s) := kept.drainIfEnded s _ h

end KeptByEffects

end Sys2Proof.Machine
end

section
/-! PROOF. Bytes, words and masks, and the decoding of a parameter block written by the layouts of section 11.4 (O35). -/

namespace Sys2Proof.Machine

/-! ### Bytes and words -/

theorem byteOf_toNat (n : Nat) : (byteOf n).toNat = n % 256 := by simp [byteOf]

theorem byteOf_toNat_of_lt {n : Nat} (h : n < 256) : (byteOf n).toNat = n := by rw [byteOf_toNat, Nat.mod_eq_of_lt h]

theorem byteOf_eq_self (b : Byte) : byteOf b.toNat = b := by simp [byteOf]

/-- A number in its field is read as itself. -/
theorem below_byteOf {n : Nat} (h : n ≤ 256) (i : Fin n) : below n (byteOf i) = some i := by
  have small : (byteOf i).toNat = i.val := byteOf_toNat_of_lt (by omega)
  simp [below, small]

theorem below_eq_none {n : Nat} {b : Byte} (h : n ≤ b.toNat) : below n b = none := by
  simp [below, Nat.not_lt.mpr h]

theorem below_eq_some {n : Nat} {b : Byte} {i : Fin n} (h : below n b = some i) : b.toNat = i.val := by
  unfold below at h
  split at h
  · cases h; rfl
  · cases h

theorem wordOf_toNat (high low : Byte) : (wordOf high low).toNat = 256 * high.toNat + low.toNat := by
  have small := low.isLt
  rw [wordOf, BitVec.toNat_append, ← Nat.shiftLeft_add_eq_or_of_lt small, Nat.shiftLeft_eq]
  omega

theorem highByte_toNat (w : BitVec 16) : (highByte w).toNat = w.toNat / 256 % 256 := by
  simp [highByte, BitVec.extractLsb'_toNat, Nat.shiftRight_eq_div_pow]

theorem lowByte_toNat (w : BitVec 16) : (lowByte w).toNat = w.toNat % 256 := by
  simp [lowByte, BitVec.extractLsb'_toNat]

@[simp] theorem wordOf_highByte_lowByte (w : BitVec 16) : wordOf (highByte w) (lowByte w) = w := by
  apply BitVec.eq_of_toNat_eq
  rw [wordOf_toNat, highByte_toNat, lowByte_toNat]
  omega

@[simp] theorem highByte_wordOf (high low : Byte) : highByte (wordOf high low) = high := by
  apply BitVec.eq_of_toNat_eq
  rw [highByte_toNat, wordOf_toNat]
  omega

@[simp] theorem lowByte_wordOf (high low : Byte) : lowByte (wordOf high low) = low := by
  apply BitVec.eq_of_toNat_eq
  rw [lowByte_toNat, wordOf_toNat]
  omega

theorem wordBytes_eq (w : BitVec 16) : wordBytes w = [byteOf (w.toNat / 256), byteOf w.toNat] := by
  have high : highByte w = byteOf (w.toNat / 256) :=
    BitVec.eq_of_toNat_eq (by rw [highByte_toNat, byteOf_toNat])
  have low : lowByte w = byteOf w.toNat := BitVec.eq_of_toNat_eq (by rw [lowByte_toNat, byteOf_toNat])
  rw [wordBytes, high, low]

@[simp] theorem wordBytes_length (w : BitVec 16) : (wordBytes w).length = 2 := rfl

/-- The fields of two bytes are read back as they were written. -/
@[simp] theorem wordsOf_flatMap (l : List (BitVec 16)) : wordsOf (l.flatMap wordBytes) = l := by
  induction l with
  | nil => rfl
  | cons w l ih => simp [wordBytes, wordsOf, List.flatMap_cons, ih]

theorem length_flatMap_wordBytes (l : List (BitVec 16)) : (l.flatMap wordBytes).length = 2 * l.length := by
  induction l with
  | nil => rfl
  | cons w l ih => simp only [List.flatMap_cons, List.length_append, ih, wordBytes, List.length_cons, List.length_nil]; omega

/-! ### Masks -/

theorem maskOf_toNat (high mid low : Byte) :
    (maskOf high mid low).toNat = 65536 * high.toNat + 256 * mid.toNat + low.toNat := by
  have pair : (mid ++ low).toNat = 256 * mid.toNat + low.toNat := wordOf_toNat mid low
  have small := (mid ++ low).isLt
  rw [maskOf, BitVec.toNat_append, ← Nat.shiftLeft_add_eq_or_of_lt small, Nat.shiftLeft_eq, pair]
  omega

theorem maskBytes_eq (m : Mask) : maskBytes m = [byteOf (m.toNat / 65536), byteOf (m.toNat / 256), byteOf m.toNat] := by
  have byte : ∀ n, m.extractLsb' n 8 = byteOf (m.toNat / 2 ^ n) := fun n =>
    BitVec.eq_of_toNat_eq (by rw [byteOf_toNat, BitVec.extractLsb'_toNat, Nat.shiftRight_eq_div_pow])
  simp [maskBytes, byte]

theorem maskOf_bytes (m : Mask) : maskOf (m.extractLsb' 16 8) (m.extractLsb' 8 8) (m.extractLsb' 0 8) = m := by
  apply BitVec.eq_of_toNat_eq
  have small := m.isLt
  simp only [maskOf_toNat, BitVec.extractLsb'_toNat, Nat.shiftRight_eq_div_pow]
  omega

theorem inMask_iff (m : Mask) (c : Channel) : inMask m c = true ↔ m.toNat / 2 ^ c.val % 2 = 1 := by
  simp [inMask, BitVec.getLsbD, Nat.testBit_eq_decide_div_mod_eq]

/-- Setting the bits of some channels of a list one after another. -/
theorem inMask_foldl (p : Channel → Bool) (l : List Channel) (m : Mask) (c : Channel) :
    inMask (l.foldl (fun m d => if p d then m ||| BitVec.twoPow 24 d else m) m) c
      = (inMask m c || (decide (c ∈ l) && p c)) := by
  induction l generalizing m with
  | nil => simp
  | cons d l ih =>
    rw [List.foldl_cons, ih]
    by_cases same : c = d
    · subst same
      cases p c <;> simp [inMask]
    · have other : (c : Nat) ≠ d := fun h => same (Fin.ext h)
      cases p d <;> simp [inMask, same, other]

theorem inMask_maskWhere (p : Channel → Bool) (c : Channel) : inMask (maskWhere p) c = p c := by
  rw [maskWhere, inMask_foldl]
  simp [inMask, channels]

theorem countChannels_eq_card (p : Channel → Bool) : countChannels p = (Finset.univ.filter fun c => p c = true).card := by
  have same : (Finset.univ.filter fun c => p c = true) = (channels.filter p).toFinset := by
    ext c
    simp [channels]
  rw [same]
  exact (List.toFinset_card_of_nodup ((List.nodup_finRange 24).filter p)).symm

/-! ### Scenes -/

/-- The value of a number in an ascending list is found behind the values of the numbers below it. -/
theorem filterMap_at {n : Nat} {α : Type} {l : List (Fin n)} {f : Fin n → Option α} {c : Fin n} {x : α}
    (ascending : l.Pairwise (· < ·)) (there : c ∈ l) (value : f c = some x) :
    (l.filterMap f)[(l.filter fun d => (f d).isSome && decide (d < c)).length]? = some x := by
  induction l with
  | nil => cases there
  | cons d l ih =>
    obtain ⟨least, ascending⟩ := List.pairwise_cons.mp ascending
    by_cases same : d = c
    · subst same
      have none_below : (l.filter fun e => (f e).isSome && decide (e < d)) = [] :=
        List.filter_eq_nil_iff.mpr fun e he => by simp [(least e he).le]
      simp [value, none_below]
    · have there : c ∈ l := (List.mem_cons.mp there).resolve_left (Ne.symm same)
      have found := ih ascending there
      have lower := least c there
      cases held : f d with
      | none => simpa [List.filterMap_cons, List.filter_cons, held] using found
      | some y => simpa [List.filterMap_cons, List.filter_cons, held, lower] using found

/-- A scene is read back from the mask of the channels it names and their levels in order (R120). -/
theorem sceneOf_namedMask (x : Scene) : sceneOf (namedMask x) ((List.finRange 24).filterMap x.get) = x := by
  apply Tab.ext_get
  intro c
  have named : ∀ d, inMask (namedMask x) d = (x.get d).isSome := inMask_maskWhere _
  simp only [sceneOf, Tab.get_of, named, countChannels, channels]
  cases held : x.get c with
  | none => rfl
  | some l =>
    have found := filterMap_at (List.pairwise_lt_finRange 24) (List.mem_finRange c) held
    simp [List.getD_eq_getElem?_getD, found]

/-- A scene names as many channels as it holds levels. -/
theorem countChannels_namedMask (x : Scene) :
    countChannels (inMask (namedMask x)) = ((List.finRange 24).filterMap x.get).length := by
  have named : inMask (namedMask x) = fun d => (x.get d).isSome := funext fun d => inMask_maskWhere _ d
  rw [named, List.length_filterMap_eq_countP, List.countP_eq_length_filter]
  rfl

/-! ### Profiles -/

theorem strictlyRising_iff (l : List Nat) : strictlyRising l = true ↔ l.IsChain (· < ·) := by
  induction l with
  | nil => simp [strictlyRising]
  | cons a l ih =>
    cases l with
    | nil => simp [strictlyRising]
    | cons b l => rw [strictlyRising, Bool.and_eq_true, ih, List.isChain_cons_cons, decide_eq_true_iff]

/-- The rise and fall steps of segments, in order. -/
def stepsOf (l : List Segment) : List Level := l.flatMap fun g => [g.rise, g.fall]

/-- Segments are read back from their bounds and steps (R42). -/
theorem segmentsOf_stepsOf (l : List Segment) : segmentsOf (l.map Segment.bound) (stepsOf l) = l := by
  induction l with
  | nil => rfl
  | cons g l ih =>
    rw [stepsOf, List.flatMap_cons, ← stepsOf]
    simp only [List.map_cons, List.cons_append, List.nil_append, segmentsOf, ih]

theorem stepsOf_length (l : List Segment) : (stepsOf l).length = 2 * l.length := by
  induction l with
  | nil => rfl
  | cons g l ih =>
    rw [stepsOf, List.flatMap_cons, ← stepsOf]
    simp only [List.length_append, List.length_cons, List.length_nil, ih]
    omega

theorem stepsOf_bytes (l : List Segment) :
    (l.flatMap fun g => wordBytes g.rise ++ wordBytes g.fall) = (stepsOf l).flatMap wordBytes := by
  simp [stepsOf, List.flatMap_assoc]

/-- The bounds of a defined profile: the written ones, which rise from above 0 to below 65536, and 65536 (R42, R43). -/
theorem ProfileOk.bounds {p : Profile} (ok : ProfileOk p) :
    p.segments.map Segment.bound = p.segments.dropLast.map Segment.bound ++ [65536]
      ∧ (0 :: p.segments.dropLast.map Segment.bound).Pairwise (· < ·)
      ∧ ∀ g ∈ p.segments.dropLast, g.bound < 65536 := by
  obtain ⟨some_segment, -, rising, positive, last⟩ := ok
  have nonempty : p.segments ≠ [] := by intro h; simp [h] at some_segment
  have split : p.segments.dropLast ++ [p.segments.getLast nonempty] = p.segments := List.dropLast_append_getLast nonempty
  have top : (p.segments.getLast nonempty).bound = 65536 := by
    simpa [List.getLast?_eq_getLast_of_ne_nil nonempty] using last
  have bounds : p.segments.map Segment.bound = p.segments.dropLast.map Segment.bound ++ [65536] := by
    conv_lhs => rw [← split]
    simp [top]
  rw [bounds, List.pairwise_append] at rising
  obtain ⟨written, -, below⟩ := rising
  refine ⟨bounds, List.pairwise_cons.mpr ⟨?_, written⟩, fun g hg => ?_⟩
  · intro b hb
    obtain ⟨g, hg, rfl⟩ := List.mem_map.mp hb
    exact (positive g (List.mem_of_mem_dropLast hg)).1
  · exact below _ (List.mem_map_of_mem hg) 65536 (by simp)

/-- The body of a WRITE PROFILE is read back as the profile (R155). -/
theorem parseProfileBody_written {p : Profile} (ok : ProfileOk p) :
    parseProfileBody p.delay p.segments.length
        (p.segments.dropLast.flatMap (fun g => wordBytes (BitVec.ofNat 16 g.bound))
          ++ p.segments.flatMap (fun g => wordBytes g.rise ++ wordBytes g.fall)) = some p := by
  obtain ⟨bounds, rising, small⟩ := ok.bounds
  obtain ⟨least, most, -, positive, -⟩ := ok
  have words : p.segments.dropLast.flatMap (fun g => wordBytes (BitVec.ofNat 16 g.bound))
      ++ p.segments.flatMap (fun g => wordBytes g.rise ++ wordBytes g.fall)
      = (p.segments.dropLast.map (fun g => BitVec.ofNat 16 g.bound) ++ stepsOf p.segments).flatMap wordBytes := by
    rw [List.flatMap_append, stepsOf_bytes, List.flatMap_map]
  have count : (p.segments.dropLast.map fun g => BitVec.ofNat 16 g.bound).length = p.segments.length - 1 := by simp
  have read : ((p.segments.dropLast.map fun g => BitVec.ofNat 16 g.bound).map BitVec.toNat)
      = p.segments.dropLast.map Segment.bound := by
    rw [List.map_map]
    exact List.map_congr_left fun g hg => by simpa using small g hg
  have steps : (stepsOf p.segments).all (fun x => decide (x ≠ 0)) = true := by
    simp only [List.all_eq_true, decide_eq_true_eq, stepsOf, List.mem_flatMap, List.mem_cons, List.not_mem_nil, or_false]
    rintro x ⟨g, hg, rfl | rfl⟩
    · exact (positive g hg).2.1
    · exact (positive g hg).2.2
  have rising' := (strictlyRising_iff _).mpr (List.isChain_iff_pairwise.mpr rising)
  have first : (p.segments.dropLast.map (fun g => BitVec.ofNat 16 g.bound) ++ stepsOf p.segments).take
      (p.segments.length - 1) = p.segments.dropLast.map fun g => BitVec.ofNat 16 g.bound := by rw [← count, List.take_left]
  have rest : (p.segments.dropLast.map (fun g => BitVec.ofNat 16 g.bound) ++ stepsOf p.segments).drop
      (p.segments.length - 1) = stepsOf p.segments := by rw [← count, List.drop_left]
  have whole : 2 * (p.segments.length - 1 + 2 * p.segments.length) + 4 = 2 + 6 * p.segments.length := by omega
  rw [words, parseProfileBody]
  simp only [wordsOf_flatMap, length_flatMap_wordBytes, List.length_append, count, stepsOf_length, whole, first, rest,
    read, rising', steps, ← bounds, segmentsOf_stepsOf]
  simp [guardSome, least, most]

/-! ### Codes -/

@[simp] theorem positionOfCode_code (q : Position) : positionOfCode (positionCode q) = some q := by
  cases q <;> rfl

@[simp] theorem mergeRuleOfCode_number (m : MergeRule) : mergeRuleOfCode (mergeRuleNumber m) = some m := by
  cases m <;> rfl

@[simp] theorem faultActionOfCode_number (f : FaultAction) : faultActionOfCode (faultActionNumber f) = some f := by
  cases f <;> rfl

theorem keyOf_parts (k : Key) : keyOf ⟨k.val / 2, by omega⟩ (keyPosition k) = k := by
  unfold keyPosition
  split <;> (apply Fin.ext; simp only [keyOf]; omega)

@[simp] theorem fineOfCode_absent : fineOfCode 255#8 = some none := rfl

@[simp] theorem fineOfCode_slot (f : Fin 240) : fineOfCode (byteOf f) = some (some f) := by
  have small : (byteOf f).toNat = f.val := byteOf_toNat_of_lt (by omega)
  have slot : byteOf f ≠ 0xFF := fun h => by rw [h] at small; simp at small; omega
  simp only [fineOfCode, if_neg slot, below_byteOf (by decide : 240 ≤ 256), Option.map_some]

theorem profileCell_written (n : Fin 15) : profileCell (byteOf (n.val + 1)) = some n := by
  have small : (byteOf (n.val + 1)).toNat = n.val + 1 := byteOf_toNat_of_lt (by omega)
  simp only [profileCell, small]
  rw [dif_pos (by omega)]
  rfl

theorem curveCell_written (n : Fin 7) : curveCell (byteOf (n.val + 1)) = some n := by
  have small : (byteOf (n.val + 1)).toNat = n.val + 1 := byteOf_toNat_of_lt (by omega)
  simp only [curveCell, small]
  rw [dif_pos (by omega)]
  rfl

@[simp] theorem timeoutOfField_auto : timeoutOfField 0#16 = .auto := rfl

theorem timeoutOfField_ticks {n : BitVec 16} (h : TimeoutSetting.ticks n ≠ .ticks 0) : timeoutOfField n = .ticks n := by
  have some_ticks : n ≠ 0 := fun zero => h (by rw [zero])
  simp only [timeoutOfField, if_neg some_ticks]

end Sys2Proof.Machine
end

section
/-! PROOF. The parser of parameter blocks (O35): it reads back what the layouts write, and what it accepts is a command of the
code with its values in range and a parameter length that the code allows. -/

namespace Sys2Proof.Machine

/-! ### Reading back what the layouts write -/

theorem parse_eq_ok {code : Byte} {p : List Byte} {f : List Byte → Option Cmd} {c : Cmd} (named : parserOf code = some f)
    (read : f p = some c) : parse code p = .ok c := by
  simp only [parse, named, read]

theorem parse_eq_badParam {code : Byte} {p : List Byte} {f : List Byte → Option Cmd} (named : parserOf code = some f)
    (fails : f p = none) : parse code p = .error .badParam := by
  simp only [parse, named, fails]

theorem parseWritePatch_written (k : Key) (e : Option PatchEntry) (ok : CmdOk (.writePatch k e)) :
    parseWritePatch (paramsOf (.writePatch k e)) = some (.writePatch k e) := by
  have channel : below 24 (byteOf (k.val / 2)) = some ⟨k.val / 2, by omega⟩ := below_byteOf (by decide) ⟨k.val / 2, by omega⟩
  cases e with
  | none => simp [paramsOf, parseWritePatch, channel, keyOf_parts, guardSome]
  | some e =>
    obtain ⟨stream, coarse, fine, curve⟩ := e
    cases fine with
    | none => simp [paramsOf, parseWritePatch, channel, keyOf_parts, guardSome, below_byteOf]
    | some fine =>
      have differ : fine ≠ coarse := fun same => ok (congrArg some same)
      simp [paramsOf, parseWritePatch, channel, keyOf_parts, guardSome, below_byteOf, differ]

theorem parseWriteProfile_written (n : Fin 15) (p : Option Profile) (ok : CmdOk (.writeProfile n p)) :
    parseWriteProfile (paramsOf (.writeProfile n p)) = some (.writeProfile n p) := by
  cases p with
  | none => simp [paramsOf, parseWriteProfile, profileCell_written, guardSome]
  | some p =>
    have count : (byteOf p.segments.length).toNat = p.segments.length := byteOf_toNat_of_lt (by have := ok.2.1; omega)
    simp [paramsOf, parseWriteProfile, profileCell_written, guardSome, count, parseProfileBody_written ok]

theorem parseWriteCurve_written (n : Fin 7) (p : Option Curve) :
    parseWriteCurve (paramsOf (.writeCurve n p)) = some (.writeCurve n p) := by
  cases p with
  | none => simp [paramsOf, parseWriteCurve, curveCell_written, guardSome]
  | some p =>
    have points : (List.finRange 17).flatMap (fun i => wordBytes (p.get i)) = ((List.finRange 17).map p.get).flatMap wordBytes := by
      rw [List.flatMap_map]
    have count : (((List.finRange 17).map p.get).flatMap wordBytes).length = 34 := by
      rw [length_flatMap_wordBytes]
      rfl
    have read : (Tab.of fun i : Fin 17 => ((List.finRange 17).map p.get).getD i.val 0) = p :=
      Tab.ext_get fun i => by simp [List.getD_eq_getElem?_getD]
    have nonempty : ((List.finRange 17).map p.get).flatMap wordBytes ≠ [] := by
      intro h
      rw [h] at count
      cases count
    rw [paramsOf, points]
    obtain ⟨b, rest, bytes⟩ := List.exists_cons_of_ne_nil nonempty
    simp only [bytes, List.cons_append, List.nil_append, parseWriteCurve, curveCell_written]
    rw [← bytes, count, wordsOf_flatMap, read]
    rfl

theorem parseWriteScene_written (n : Fin 8) (x : Option Scene) (ok : CmdOk (.writeScene n x)) :
    parseWriteScene (paramsOf (.writeScene n x)) = some (.writeScene n x) := by
  have scene : below 8 (byteOf n) = some n := below_byteOf (by decide) n
  cases x with
  | none => simp [paramsOf, parseWriteScene, scene, guardSome]
  | some x =>
    obtain ⟨c, named⟩ := ok
    have some_level : 1 ≤ ((List.finRange 24).filterMap x.get).length := by
      obtain ⟨l, held⟩ := Option.isSome_iff_exists.mp named
      exact List.length_pos_of_mem (List.mem_filterMap.mpr ⟨c, List.mem_finRange c, held⟩)
    simp [paramsOf, maskBytes, parseWriteScene, scene, maskOf_bytes, countChannels_namedMask, sceneOf_namedMask, guardSome,
      some_level, Nat.mul_comm 2]

theorem parseRead_written (x : ReadItem) : parseRead (readParams x) = some (.read x) := by
  have set (t : SetName) : setOfCode (setCode t) = some t := by cases t <;> rfl
  cases x <;> simp [readParams, parseRead, parseReadItem, below_byteOf, set, guardSome, itemNodeStatus]

/-- Every command's parameter block, written by its layout, is read back as the command (section 11.4). -/
theorem parse_paramsOf (c : Cmd) (ok : CmdOk c) : parse (codeOf c) (paramsOf c) = .ok c := by
  cases c with
  | setGroups l =>
    obtain ⟨few, distinct, range⟩ := ok
    exact parse_eq_ok (f := parseSetGroups) rfl (by simpa [parseSetGroups, guardSome, paramsOf, few, distinct] using range)
  | writePatch k e => exact parse_eq_ok (f := parseWritePatch) rfl (parseWritePatch_written k e ok)
  | writeChannel c g =>
    exact parse_eq_ok (f := parseWriteChannel) rfl (by simp [paramsOf, parseWriteChannel, wordBytes, below_byteOf])
  | writeProfile n p => exact parse_eq_ok (f := parseWriteProfile) rfl (parseWriteProfile_written n p ok)
  | writeCurve n p => exact parse_eq_ok (f := parseWriteCurve) rfl (parseWriteCurve_written n p)
  | writeScene n x => exact parse_eq_ok (f := parseWriteScene) rfl (parseWriteScene_written n x ok)
  | arm e => exact parse_eq_ok (f := parseArm) rfl (by simp [paramsOf, parseArm, wordBytes])
  | setStream i e t p =>
    have zero : below 8 (0#8) = some 0 := rfl
    have enable : flagOfCode (if e = true then 1#8 else 0#8) = some e := by cases e <;> rfl
    have timeout : timeoutOfField (timeoutField t) = t := by
      cases t with
      | auto => rfl
      | ticks n => exact timeoutOfField_ticks ok
    refine parse_eq_ok (f := parseSetStream) rfl ?_
    change parseSetStream ([byteOf i, if e = true then 1 else 0] ++ wordBytes (timeoutField t) ++ _) = _
    cases p <;> simp [parseSetStream, wordBytes, below_byteOf, enable, timeout, policyOfCodes, zero]
  | recallScene n m p =>
    refine parse_eq_ok (f := parseRecallScene) rfl ?_
    cases m <;> cases p <;> simp [paramsOf, parseRecallScene, maskBytes, below_byteOf, maskOf_bytes]
  | release m => exact parse_eq_ok (f := parseRelease) rfl (by simp [paramsOf, parseRelease, maskBytes, maskOf_bytes])
  | clearFaults m =>
    exact parse_eq_ok (f := parseClearFaults) rfl (by simp [paramsOf, parseClearFaults, maskBytes, maskOf_bytes])
  | startAudit m l d =>
    obtain ⟨mask, level, least, most⟩ := ok
    have dwell : (byteOf d).toNat = d := byteOf_toNat_of_lt (by omega)
    have mask : ¬ m = 0#24 := mask
    have level : ¬ l = 0#16 := level
    exact parse_eq_ok (f := parseStartAudit) rfl
      (by simp [paramsOf, parseStartAudit, maskBytes, wordBytes, maskOf_bytes, guardSome, dwell, mask, level, least, most])
  | setCeiling l => exact parse_eq_ok (f := parseSetCeiling) rfl (by simp [paramsOf, parseSetCeiling, wordBytes])
  | read x => exact parse_eq_ok (f := parseRead) rfl (parseRead_written x)
  | copyActive | disarm | commitNow | outputsOn | outputsOff | abortAudit | nodeReset => rfl

/-- A parameter block written by its layout has at most 64 bytes (R133). -/
theorem paramsOf_length (c : Cmd) (ok : CmdOk c) : (paramsOf c).length ≤ 64 := by
  cases c with
  | setGroups l => exact ok.1.trans (by decide)
  | writePatch k e => cases e <;> simp [paramsOf]
  | writeProfile n p =>
    cases p with
    | none => simp [paramsOf]
    | some p =>
      have most := ok.2.1
      have bounds : p.segments.dropLast.flatMap (fun g => wordBytes (BitVec.ofNat 16 g.bound))
          = (p.segments.dropLast.map fun g => BitVec.ofNat 16 g.bound).flatMap wordBytes := by rw [List.flatMap_map]
      simp only [paramsOf, stepsOf_bytes, bounds, List.length_append, length_flatMap_wordBytes, stepsOf_length,
        List.length_map, List.length_dropLast, List.length_cons, List.length_nil]
      omega
  | writeCurve n p =>
    cases p with
    | none => simp [paramsOf]
    | some p =>
      have points : (List.finRange 17).flatMap (fun i => wordBytes (p.get i)) = ((List.finRange 17).map p.get).flatMap wordBytes := by
        rw [List.flatMap_map]
      simp [paramsOf, points, Function.comp_def]
  | writeScene n x =>
    cases x with
    | none => simp [paramsOf]
    | some x =>
      have most : ((List.finRange 24).filterMap x.get).length ≤ 24 := by
        simpa using List.length_filterMap_le x.get (List.finRange 24)
      simp only [paramsOf, maskBytes, List.length_append, length_flatMap_wordBytes, List.length_cons, List.length_nil]
      omega
  | setStream i e t p => cases p <;> simp [paramsOf, wordBytes]
  | recallScene n m p => cases m <;> cases p <;> simp [paramsOf, maskBytes]
  | read x => cases x <;> simp [paramsOf, readParams]
  | _ => simp [paramsOf, wordBytes, maskBytes]

/-! ### What is accepted -/

theorem guardSome_eq_some {α : Type} {ok : Bool} {x y : α} : guardSome ok x = some y ↔ ok = true ∧ x = y := by
  unfold guardSome
  split <;> simp_all

/-- What the parser of a code accepts: a command of the code, its values in range, from a block of a length that the code
allows (R151 to R166, R195). -/
def Accepts (code : Byte) (p : List Byte) (c : Cmd) : Prop :=
  codeOf c = code ∧ CmdOk c ∧ lengthAllowed code p.length = true

theorem parseEmpty_accepts {c : Cmd} {p : List Byte} {c' : Cmd} (trivial : CmdOk c)
    (none_allowed : lengthAllowed (codeOf c) 0 = true) (h : parseEmpty c p = some c') : Accepts (codeOf c) p c' := by
  obtain ⟨empty, rfl⟩ := guardSome_eq_some.mp h
  rw [List.isEmpty_iff.mp empty]
  exact ⟨rfl, trivial, none_allowed⟩

theorem parseSetGroups_accepts {p : List Byte} {c : Cmd} (h : parseSetGroups p = some c) : Accepts 1 p c := by
  obtain ⟨right, rfl⟩ := guardSome_eq_some.mp h
  simp only [Bool.and_eq_true, decide_eq_true_eq, List.all_eq_true] at right
  obtain ⟨⟨few, range⟩, distinct⟩ := right
  exact ⟨rfl, ⟨few, distinct, range⟩, by simpa [lengthAllowed] using few⟩

theorem parseWritePatch_accepts {p : List Byte} {c : Cmd} (h : parseWritePatch p = some c) : Accepts 2 p c := by
  unfold parseWritePatch at h
  split at h
  · simp only [Option.bind_eq_bind, Option.bind_eq_some_iff, guardSome_eq_some] at h
    obtain ⟨-, -, -, -, -, rfl⟩ := h
    exact ⟨rfl, trivial, rfl⟩
  · simp only [Option.bind_eq_bind, Option.bind_eq_some_iff, guardSome_eq_some, Bool.and_eq_true, decide_eq_true_eq] at h
    obtain ⟨-, -, -, -, -, -, coarse, -, fine, -, -, -, ⟨-, differ⟩, rfl⟩ := h
    exact ⟨rfl, differ, rfl⟩
  · cases h

theorem parseWriteChannel_accepts {p : List Byte} {c : Cmd} (h : parseWriteChannel p = some c) : Accepts 3 p c := by
  unfold parseWriteChannel at h
  split at h
  · simp only [Option.bind_eq_bind, Option.bind_eq_some_iff, Option.some.injEq] at h
    obtain ⟨-, -, -, -, -, -, -, -, -, -, rfl⟩ := h
    exact ⟨rfl, trivial, rfl⟩
  · cases h

theorem wordsOf_length (l : List Byte) : (wordsOf l).length = l.length / 2 := by
  induction l using wordsOf.induct with
  | case1 high low rest ih => simp only [wordsOf, List.length_cons, ih]; omega
  | case2 l short =>
    match l with
    | [] => rfl
    | [b] => simp [wordsOf]
    | high :: low :: rest => exact absurd rfl (short high low rest)

/-- Segments read from as many bounds as pairs of steps have these bounds, and steps from the list. -/
theorem segmentsOf_spec (bounds : List Nat) (steps : List Level) (h : steps.length = 2 * bounds.length) :
    (segmentsOf bounds steps).map Segment.bound = bounds
      ∧ ∀ g ∈ segmentsOf bounds steps, g.rise ∈ steps ∧ g.fall ∈ steps := by
  induction bounds generalizing steps with
  | nil => simp [segmentsOf]
  | cons b bounds ih =>
    match steps, h with
    | rise :: fall :: steps, h =>
      obtain ⟨same, inside⟩ := ih steps (by simp only [List.length_cons] at h; omega)
      refine ⟨by simp only [segmentsOf, List.map_cons, same], fun g hg => ?_⟩
      rcases List.mem_cons.mp hg with rfl | hg
      · simp
      · obtain ⟨r, f⟩ := inside g hg
        exact ⟨by simp [r], by simp [f]⟩

/-- A body accepted for a WRITE PROFILE is a defined profile, of a length that its segment count gives (R155). -/
theorem parseProfileBody_ok {delay : Byte} {k : Nat} {rest : List Byte} {p : Profile}
    (h : parseProfileBody delay k rest = some p) :
    ProfileOk p ∧ 1 ≤ k ∧ k ≤ 4 ∧ rest.length + 4 = 2 + 6 * k := by
  unfold parseProfileBody at h
  obtain ⟨right, rfl⟩ := guardSome_eq_some.mp h
  simp only [Bool.and_eq_true, decide_eq_true_eq, List.all_eq_true] at right
  obtain ⟨⟨⟨⟨least, most⟩, whole⟩, rising⟩, steps⟩ := right
  have rising := List.isChain_iff_pairwise.mp ((strictlyRising_iff _).mp rising)
  set words := wordsOf rest with hwords
  have count : words.length = 3 * k - 1 := by rw [hwords, wordsOf_length]; omega
  set bounds := (words.take (k - 1)).map BitVec.toNat with hbounds
  have bounds_count : bounds.length = k - 1 := by simp [hbounds, count]; omega
  obtain ⟨same, inside⟩ := segmentsOf_spec (bounds ++ [65536]) (words.drop (k - 1))
    (by simp only [List.length_drop, List.length_append, bounds_count, count, List.length_cons, List.length_nil]; omega)
  have length : (segmentsOf (bounds ++ [65536]) (words.drop (k - 1))).length = k := by
    have := congrArg List.length same
    simp only [List.length_map, List.length_append, bounds_count, List.length_cons, List.length_nil] at this
    omega
  obtain ⟨positive, ascending⟩ := List.pairwise_cons.mp rising
  have word_bound : ∀ b ∈ bounds, b < 65536 := by
    intro b hb
    obtain ⟨w, -, rfl⟩ := List.mem_map.mp (hbounds ▸ hb)
    exact w.isLt
  refine ⟨⟨least.trans_eq length.symm, length.trans_le most, ?_, fun g hg => ⟨?_, ?_, ?_⟩, ?_⟩, least, most, whole⟩
  · dsimp only
    rw [same, List.pairwise_append]
    exact ⟨ascending, by simp, fun a ha b hb => by simp at hb; subst hb; exact word_bound a ha⟩
  · have there : g.bound ∈ bounds ++ [65536] := same ▸ List.mem_map_of_mem hg
    rcases List.mem_append.mp there with written | last
    · exact positive _ written
    · simp at last; omega
  · exact steps _ (inside g hg).1
  · exact steps _ (inside g hg).2
  · rw [← List.getLast?_map, same]
    simp

theorem parseWriteProfile_accepts {p : List Byte} {c : Cmd} (h : parseWriteProfile p = some c) : Accepts 4 p c := by
  unfold parseWriteProfile at h
  split at h
  · simp only [Option.bind_eq_bind, Option.bind_eq_some_iff, guardSome_eq_some] at h
    obtain ⟨-, -, -, rfl⟩ := h
    exact ⟨rfl, trivial, rfl⟩
  · next n action delay k rest =>
    simp only [Option.bind_eq_bind, Option.bind_eq_some_iff, guardSome_eq_some] at h
    obtain ⟨-, -, body, read, -, rfl⟩ := h
    obtain ⟨ok, least, most, whole⟩ := parseProfileBody_ok read
    refine ⟨rfl, ok, ?_⟩
    have lengths : rest.length = 4 ∨ rest.length = 10 ∨ rest.length = 16 ∨ rest.length = 22 := by omega
    rcases lengths with h | h | h | h <;> simp [lengthAllowed, h]
  · cases h

theorem parseWriteCurve_accepts {p : List Byte} {c : Cmd} (h : parseWriteCurve p = some c) : Accepts 5 p c := by
  unfold parseWriteCurve at h
  split at h
  · simp only [Option.bind_eq_bind, Option.bind_eq_some_iff, guardSome_eq_some] at h
    obtain ⟨-, -, -, rfl⟩ := h
    exact ⟨rfl, trivial, rfl⟩
  · simp only [Option.bind_eq_bind, Option.bind_eq_some_iff, guardSome_eq_some, Bool.and_eq_true, decide_eq_true_eq] at h
    obtain ⟨-, -, ⟨-, length⟩, rfl⟩ := h
    exact ⟨rfl, trivial, by simp [lengthAllowed, length]⟩
  · cases h

theorem countChannels_le (p : Channel → Bool) : countChannels p ≤ 24 := by
  simpa [countChannels, channels] using List.length_filter_le p (List.finRange 24)

theorem parseWriteScene_accepts {p : List Byte} {c : Cmd} (h : parseWriteScene p = some c) : Accepts 6 p c := by
  unfold parseWriteScene at h
  split at h
  · simp only [Option.bind_eq_bind, Option.bind_eq_some_iff, guardSome_eq_some] at h
    obtain ⟨-, -, -, rfl⟩ := h
    exact ⟨rfl, trivial, rfl⟩
  · next n action m2 m1 m0 rest =>
    simp only [Option.bind_eq_bind, Option.bind_eq_some_iff, guardSome_eq_some, Bool.and_eq_true, decide_eq_true_eq] at h
    obtain ⟨-, -, ⟨⟨-, named⟩, length⟩, rfl⟩ := h
    have most := countChannels_le (inMask (maskOf m2 m1 m0))
    refine ⟨rfl, ?_, ?_⟩
    · obtain ⟨c, hc⟩ := List.length_pos_iff_exists_mem.mp named
      exact ⟨c, by simp [sceneOf, (List.mem_filter.mp hc).2]⟩
    · have range : 7 ≤ rest.length + 5 ∧ rest.length + 5 ≤ 53 ∧ (rest.length + 5) % 2 = 1 := by omega
      obtain ⟨low, high, odd⟩ := range
      simp only [lengthAllowed, List.length_cons]
      simp [low, high, odd]
  · cases h

theorem parseArm_accepts {p : List Byte} {c : Cmd} (h : parseArm p = some c) : Accepts 8 p c := by
  unfold parseArm at h
  split at h
  · cases h; exact ⟨rfl, trivial, rfl⟩
  · cases h

theorem timeoutOfField_ne (w : BitVec 16) : timeoutOfField w ≠ .ticks 0 := by
  unfold timeoutOfField
  split
  · simp
  · next some_ticks => simpa using some_ticks

theorem parseSetStream_accepts {p : List Byte} {c : Cmd} (h : parseSetStream p = some c) : Accepts 11 p c := by
  unfold parseSetStream at h
  split at h
  · simp only [Option.bind_eq_bind, Option.bind_eq_some_iff, Option.some.injEq] at h
    obtain ⟨-, -, -, -, -, -, -, -, rfl⟩ := h
    exact ⟨rfl, timeoutOfField_ne _, rfl⟩
  · cases h

theorem parseRecallScene_accepts {p : List Byte} {c : Cmd} (h : parseRecallScene p = some c) : Accepts 12 p c := by
  unfold parseRecallScene at h
  split at h
  · simp only [Option.bind_eq_bind, Option.bind_eq_some_iff, Option.some.injEq] at h
    obtain ⟨-, -, rfl⟩ := h
    exact ⟨rfl, trivial, rfl⟩
  · simp only [Option.bind_eq_bind, Option.bind_eq_some_iff, Option.some.injEq] at h
    obtain ⟨-, -, -, -, rfl⟩ := h
    exact ⟨rfl, trivial, rfl⟩
  · simp only [Option.bind_eq_bind, Option.bind_eq_some_iff, Option.some.injEq] at h
    obtain ⟨-, -, rfl⟩ := h
    exact ⟨rfl, trivial, rfl⟩
  · simp only [Option.bind_eq_bind, Option.bind_eq_some_iff, Option.some.injEq] at h
    obtain ⟨-, -, -, -, rfl⟩ := h
    exact ⟨rfl, trivial, rfl⟩
  · cases h

theorem parseRelease_accepts {p : List Byte} {c : Cmd} (h : parseRelease p = some c) : Accepts 13 p c := by
  unfold parseRelease at h
  split at h
  · cases h; exact ⟨rfl, trivial, rfl⟩
  · cases h

theorem parseClearFaults_accepts {p : List Byte} {c : Cmd} (h : parseClearFaults p = some c) : Accepts 16 p c := by
  unfold parseClearFaults at h
  split at h
  · cases h; exact ⟨rfl, trivial, rfl⟩
  · cases h

theorem parseStartAudit_accepts {p : List Byte} {c : Cmd} (h : parseStartAudit p = some c) : Accepts 17 p c := by
  unfold parseStartAudit at h
  split at h
  · simp only [guardSome_eq_some, Bool.and_eq_true, decide_eq_true_eq] at h
    obtain ⟨⟨⟨mask, level⟩, least, most⟩, rfl⟩ := h
    exact ⟨rfl, ⟨mask, level, least, most⟩, rfl⟩
  · cases h

theorem parseSetCeiling_accepts {p : List Byte} {c : Cmd} (h : parseSetCeiling p = some c) : Accepts 19 p c := by
  unfold parseSetCeiling at h
  split at h
  · cases h; exact ⟨rfl, trivial, rfl⟩
  · cases h

theorem parseRead_accepts {p : List Byte} {c : Cmd} (h : parseRead p = some c) : Accepts 20 p c := by
  unfold parseRead at h
  split at h
  · obtain ⟨x, -, rfl⟩ := Option.map_eq_some_iff.mp h
    exact ⟨rfl, trivial, rfl⟩
  · cases h

/-- A block that is accepted spells a command of its code, with values in range, in a length that the code allows. -/
theorem parse_accepts {code : Byte} {p : List Byte} {c : Cmd} (h : parse code p = .ok c) : Accepts code p c := by
  unfold parse at h
  split at h
  · cases h
  · next f named =>
    have read : f p = some c := by
      split at h
      · next read => rw [read, Except.ok.inj h]
      · cases h
    clear h
    unfold parserOf at named
    obtain ⟨rfl, same⟩ | ⟨-, named⟩ := ite_eq_iff.mp named
    · cases same; exact parseSetGroups_accepts read
    obtain ⟨rfl, same⟩ | ⟨-, named⟩ := ite_eq_iff.mp named
    · cases same; exact parseWritePatch_accepts read
    obtain ⟨rfl, same⟩ | ⟨-, named⟩ := ite_eq_iff.mp named
    · cases same; exact parseWriteChannel_accepts read
    obtain ⟨rfl, same⟩ | ⟨-, named⟩ := ite_eq_iff.mp named
    · cases same; exact parseWriteProfile_accepts read
    obtain ⟨rfl, same⟩ | ⟨-, named⟩ := ite_eq_iff.mp named
    · cases same; exact parseWriteCurve_accepts read
    obtain ⟨rfl, same⟩ | ⟨-, named⟩ := ite_eq_iff.mp named
    · cases same; exact parseWriteScene_accepts read
    obtain ⟨rfl, same⟩ | ⟨-, named⟩ := ite_eq_iff.mp named
    · cases same; exact parseEmpty_accepts (c := .copyActive) trivial rfl read
    obtain ⟨rfl, same⟩ | ⟨-, named⟩ := ite_eq_iff.mp named
    · cases same; exact parseArm_accepts read
    obtain ⟨rfl, same⟩ | ⟨-, named⟩ := ite_eq_iff.mp named
    · cases same; exact parseEmpty_accepts (c := .disarm) trivial rfl read
    obtain ⟨rfl, same⟩ | ⟨-, named⟩ := ite_eq_iff.mp named
    · cases same; exact parseEmpty_accepts (c := .commitNow) trivial rfl read
    obtain ⟨rfl, same⟩ | ⟨-, named⟩ := ite_eq_iff.mp named
    · cases same; exact parseSetStream_accepts read
    obtain ⟨rfl, same⟩ | ⟨-, named⟩ := ite_eq_iff.mp named
    · cases same; exact parseRecallScene_accepts read
    obtain ⟨rfl, same⟩ | ⟨-, named⟩ := ite_eq_iff.mp named
    · cases same; exact parseRelease_accepts read
    obtain ⟨rfl, same⟩ | ⟨-, named⟩ := ite_eq_iff.mp named
    · cases same; exact parseEmpty_accepts (c := .outputsOn) trivial rfl read
    obtain ⟨rfl, same⟩ | ⟨-, named⟩ := ite_eq_iff.mp named
    · cases same; exact parseEmpty_accepts (c := .outputsOff) trivial rfl read
    obtain ⟨rfl, same⟩ | ⟨-, named⟩ := ite_eq_iff.mp named
    · cases same; exact parseClearFaults_accepts read
    obtain ⟨rfl, same⟩ | ⟨-, named⟩ := ite_eq_iff.mp named
    · cases same; exact parseStartAudit_accepts read
    obtain ⟨rfl, same⟩ | ⟨-, named⟩ := ite_eq_iff.mp named
    · cases same; exact parseEmpty_accepts (c := .abortAudit) trivial rfl read
    obtain ⟨rfl, same⟩ | ⟨-, named⟩ := ite_eq_iff.mp named
    · cases same; exact parseSetCeiling_accepts read
    obtain ⟨rfl, same⟩ | ⟨-, named⟩ := ite_eq_iff.mp named
    · cases same; exact parseRead_accepts read
    obtain ⟨rfl, same⟩ | ⟨-, named⟩ := ite_eq_iff.mp named
    · cases same; exact parseEmpty_accepts (c := .nodeReset) trivial rfl read
    cases named

end Sys2Proof.Machine

open Sys2Proof Sys2Proof.Machine

/-- Settles O35: each command by the reading back of its own layout, then the bytes, words and masks it is written in. -/
theorem parameterBlocksDecode : Obligations.ParameterBlocksDecode :=
  ⟨parse_paramsOf, byteOf_toNat, wordBytes_eq, wordOf_toNat, maskBytes_eq, maskOf_toNat, inMask_iff,
    fun x c => by rw [namedMask, inMask_maskWhere], countChannels_eq_card⟩
end

section
/-! PROOF. The taking of command rows (O36, O37): what a row comes to where its command executes on acceptance, and the
refusals of what the parser does not accept. -/

namespace Sys2Proof.Machine

/-! ### A command row, by what the collections hold -/

theorem takeCommand_held {s : State} {seq : Byte} (held : ∃ r ∈ heldRecords s.command, r.seq = seq) (code : Byte)
    (params : List Byte) : takeCommand seq code params s = s := by
  simp only [takeCommand, (findRecord_isSome _ _).mpr held, if_true]

theorem isHeld_eq_false_iff {u : CommandUnit} {seq : Byte} : isHeld u seq = false ↔ SeqFree u seq := by
  rw [← Bool.not_eq_true, findRecord_isSome]
  simp [SeqFree]

/-- Behind a running audit a normal command waits in the queue, where there is room (R139). -/
theorem takeCommand_queued {s : State} {seq code : Byte} {params : List Byte} (free : SeqFree s.command seq)
    (normal : isUrgent code = false) (waits : isNodeStatusRead code params = false) (busy : s.command.running ≠ none)
    (room : s.command.queue.length < 4) :
    takeCommand seq code params s = { s with command := { s.command with queue := s.command.queue ++
      [{ seq := seq, code := code, status := .queued, result := none, data := [], params := params }] } } := by
  simp [takeCommand, isHeld_of_free free, normal, waits, busy, room]

theorem takeCommand_queueFull {s : State} {seq code : Byte} {params : List Byte} (free : SeqFree s.command seq)
    (normal : isUrgent code = false) (waits : isNodeStatusRead code params = false) (busy : s.command.running ≠ none)
    (full : 4 ≤ s.command.queue.length) :
    takeCommand seq code params s = repliedRefused s seq code .queueFull [] := by
  simp [takeCommand, isHeld_of_free free, normal, waits, busy, Nat.not_lt.mpr full, reply, addReply_eq]
  rfl

theorem isUrgent_eq_false {code : Byte} (off : code ≠ 15) (abort : code ≠ 18) (reset : code ≠ 21) :
    isUrgent code = false := by
  simp [isUrgent, codeOutputsOff, codeAbortAudit, codeNodeReset]
  exact ⟨⟨off, abort⟩, reset⟩

theorem isNodeStatusRead_eq_false {code : Byte} {params : List Byte}
    (other : ¬ (code = 20 ∧ params.length = 4 ∧ params.head? = some 8)) : isNodeStatusRead code params = false := by
  rw [← Bool.not_eq_true]
  simpa [isNodeStatusRead, codeRead, itemNodeStatus, and_assoc] using other

/-- The code of an urgent command, as its number (R138). -/
theorem isUrgent_iff {code : Byte} : isUrgent code = true ↔ code = 15 ∨ code = 18 ∨ code = 21 := by
  simp [isUrgent, codeOutputsOff, codeAbortAudit, codeNodeReset, or_assoc]

theorem commandRow_heard {s : State} (hears : ringConnected s = true) {params : List Byte} (fits : params.length ≤ 64)
    (code seq : Byte) : commandRow code seq params s = takeCommand seq code params s := by
  simp [commandRow, hears, fits]

/-- A code that has a row has a parser, and the other way round (section 9.1). -/
theorem exists_parser {row : Instr} {code seq : Byte} {params : List Byte} (named : commandOf code seq params = some row) :
    ∃ f, parserOf code = some f := by
  unfold commandOf at named
  repeat
    obtain ⟨rfl, -⟩ | ⟨-, named⟩ := ite_eq_iff.mp named
    · exact ⟨_, rfl⟩
  exact nomatch named

theorem exists_row {code : Byte} {f : List Byte → Option Cmd} (named : parserOf code = some f) (seq : Byte)
    (params : List Byte) : ∃ row, commandOf code seq params = some row := by
  unfold parserOf at named
  repeat
    obtain ⟨rfl, -⟩ | ⟨-, named⟩ := ite_eq_iff.mp named
    · exact ⟨_, rfl⟩
  exact nomatch named

theorem parse_unknown {code seq : Byte} {params : List Byte} (unnamed : commandOf code seq params = none) :
    parse code params = .error .unknownCommand := by
  cases parser : parserOf code with
  | none => simp only [parse, parser]
  | some f =>
    obtain ⟨row, named⟩ := exists_row parser seq params
    rw [unnamed] at named
    cases named

/-! ### A command that executes on acceptance -/

/-- On a node ready for it a command written by its layout is executed. -/
theorem exec_ready {c : Cmd} (ok : CmdOk c) {s : State} {seq : Byte} (ready : Ready s seq) {row : Instr}
    (named : commandOf (codeOf c) seq (paramsOf c) = some row) :
    exec row s = .next (execute seq (codeOf c) (paramsOf c) s) := by
  rw [exec_commandOf named, commandRow_ready ready (paramsOf_length c ok)]

/-- It adds its record, DONE, to the state that its effect leaves. -/
theorem exec_ready_done {c : Cmd} (ok : CmdOk c) {s s' : State} {seq : Byte} (ready : Ready s seq) {row : Instr}
    (named : commandOf (codeOf c) seq (paramsOf c) = some row) {data : List Byte} (ends : effect c s = (s', .done data)) :
    exec row s = .next { s' with command := withReply s'.command (doneRecord seq (codeOf c) data) } := by
  rw [exec_ready ok ready named, execute_done (parse_paramsOf c ok) ends]

/-- Or its record, REFUSED, where its effect refuses it. -/
theorem exec_ready_refused {c : Cmd} (ok : CmdOk c) {s : State} {seq : Byte} (ready : Ready s seq) {row : Instr}
    (named : commandOf (codeOf c) seq (paramsOf c) = some row) {e : ResultCode} {data : List Byte}
    (ends : effect c s = (s, .refused e data)) : exec row s = .next (repliedRefused s seq (codeOf c) e data) := by
  rw [exec_ready ok ready named, execute_refused (parse_paramsOf c ok) ends]
  rfl

/-! ### Parameters that are refused -/

theorem execute_error {seq code : Byte} {params : List Byte} {s : State} {e : ResultCode}
    (wrong : parse code params = .error e) : execute seq code params s = repliedRefused s seq code e [] := by
  simp only [execute, wrong, reply, addReply_eq]
  rfl

/-- A command that its parser refuses adds its record alone, an urgent one and a READ of node status whatever runs (R138,
R141). -/
theorem exec_refused_at_parse {s : State} {seq code : Byte} {params : List Byte} {row : Instr} {e : ResultCode}
    (takes : Takes s seq) (fits : params.length ≤ 64) (named : commandOf code seq params = some row)
    (wrong : parse code params = .error e)
    (now : isUrgent code = true ∨ isNodeStatusRead code params = true ∨ s.command.running = none) :
    exec row s = .next (repliedRefused s seq code e []) := by
  obtain ⟨hears, free⟩ := takes
  have unended : drainIfEnded s (repliedRefused s seq code e []) = repliedRefused s seq code e [] := by
    cases h : s.command.running <;> simp [drainIfEnded, repliedRefused, withReply, h]
  rw [exec_commandOf named, commandRow_heard hears fits]
  simp only [takeCommand, isHeld_of_free free, execute_error wrong, unended]
  rcases now with urgent | status | idle
  · simp [urgent]
  · simp [status]
  · simp [idle]

/-- A block that the parser does not accept is refused with BAD_PARAM. -/
theorem parse_badParam {row : Instr} {code seq : Byte} {p : List Byte} (named : commandOf code seq p = some row)
    (never : ∀ c, parse code p ≠ .ok c) : parse code p = .error .badParam := by
  obtain ⟨f, parser⟩ := exists_parser named
  cases read : f p with
  | none => exact parse_eq_badParam parser read
  | some c => exact absurd (parse_eq_ok parser read) (never c)

theorem parse_wrong_length {row : Instr} {code seq : Byte} {p : List Byte} (named : commandOf code seq p = some row)
    (wrong : lengthAllowed code p.length = false) : parse code p = .error .badParam :=
  parse_badParam named fun _ right => by
    obtain ⟨-, -, allowed⟩ := parse_accepts right
    rw [wrong] at allowed
    cases allowed

theorem positionOfCode_eq_none {b : Byte} (h : 1 < b.toNat) : positionOfCode b = none := by
  simp only [positionOfCode]
  rw [if_neg (by rintro rfl; simp at h), if_neg (by rintro rfl; simp at h)]

theorem mergeRuleOfCode_eq_none {b : Byte} (h : 2 < b.toNat) : mergeRuleOfCode b = none := by
  simp only [mergeRuleOfCode]
  rw [if_neg (by rintro rfl; simp at h), if_neg (by rintro rfl; simp at h), if_neg (by rintro rfl; simp at h)]

theorem faultActionOfCode_eq_none {b : Byte} (h : 1 < b.toNat) : faultActionOfCode b = none := by
  simp only [faultActionOfCode]
  rw [if_neg (by rintro rfl; simp at h), if_neg (by rintro rfl; simp at h)]

theorem flagOfCode_eq_none {b : Byte} (h : 1 < b.toNat) : flagOfCode b = none := by
  simp only [flagOfCode]
  rw [if_neg (by rintro rfl; simp at h), if_neg (by rintro rfl; simp at h)]

theorem setOfCode_eq_none {b : Byte} (h : 1 < b.toNat) : setOfCode b = none := by
  simp only [setOfCode]
  rw [if_neg (by rintro rfl; simp at h), if_neg (by rintro rfl; simp at h)]

theorem policyOfCodes_eq_none {b : Byte} (h : 2 < b.toNat) (n : Fin 8) : policyOfCodes b n = none := by
  simp only [policyOfCodes]
  rw [if_neg (by rintro rfl; simp at h), if_neg (by rintro rfl; simp at h), if_neg (by rintro rfl; simp at h)]

theorem fineOfCode_eq_none {b : Byte} (h : 239 < b.toNat) (present : b ≠ 0xFF) : fineOfCode b = none := by
  simp only [fineOfCode, if_neg present, below_eq_none (n := 240) h, Option.map_none]

/-- The fine slot of a block whose fine byte repeats its coarse byte is the coarse slot. -/
theorem fineOfCode_of_coarse {b : Byte} {coarse : Fin 240} (h : below 240 b = some coarse) :
    fineOfCode b = some (some coarse) := by
  have small := below_eq_some h
  have slot : b ≠ 0xFF := by
    rintro rfl
    simp at small
    omega
  simp only [fineOfCode, if_neg slot, h, Option.map_some]

theorem profileCell_eq_none {b : Byte} (h : b.toNat = 0 ∨ 15 < b.toNat) : profileCell b = none := by
  simp only [profileCell]
  rw [dif_neg (by omega)]

theorem curveCell_eq_none {b : Byte} (h : b.toNat = 0 ∨ 7 < b.toNat) : curveCell b = none := by
  simp only [curveCell]
  rw [dif_neg (by omega)]

end Sys2Proof.Machine
end

section
/-! PROOF. What is refused at the parameters (O36), and what the collections turn away (O37). -/

namespace Sys2Proof.Machine

/-! ### Fields out of their ranges (R195), command by command -/

theorem parseSetGroups_range {p : List Byte} {g : Byte} (there : g ∈ p) (wrong : g.toNat = 0 ∨ 63 < g.toNat) :
    parseSetGroups p = none := by
  rw [Option.eq_none_iff_forall_ne_some]
  intro c read
  obtain ⟨right, rfl⟩ := guardSome_eq_some.mp read
  simp only [Bool.and_eq_true, decide_eq_true_eq, List.all_eq_true] at right
  have := right.1.2 g there
  omega

theorem parseSetGroups_twice {p : List Byte} (twice : ¬ p.Nodup) : parseSetGroups p = none := by
  simp [parseSetGroups, guardSome, twice]

theorem parseWritePatch_clear {ch pos act : Byte} (wrong : 23 < ch.toNat ∨ 1 < pos.toNat ∨ act ≠ 0) :
    parseWritePatch [ch, pos, act] = none := by
  rcases wrong with h | h | h
  · simp [parseWritePatch, below_eq_none (n := 24) h]
  · simp [parseWritePatch, positionOfCode_eq_none h]
  · have h : ¬ act = 0#8 := h
    simp [parseWritePatch, guardSome, h]

theorem parseWritePatch_set {ch pos act st co fi cu : Byte}
    (wrong : 23 < ch.toNat ∨ 1 < pos.toNat ∨ act ≠ 1 ∨ 15 < st.toNat ∨ 239 < co.toNat ∨ 239 < fi.toNat ∧ fi ≠ 0xFF
      ∨ fi = co ∨ 7 < cu.toNat) : parseWritePatch [ch, pos, act, st, co, fi, cu] = none := by
  rcases wrong with h | h | h | h | h | ⟨h, present⟩ | rfl | h
  · simp [parseWritePatch, below_eq_none (n := 24) h]
  · simp [parseWritePatch, positionOfCode_eq_none h]
  · have h : ¬ act = 1#8 := h
    simp [parseWritePatch, guardSome, h]
  · simp [parseWritePatch, below_eq_none (n := 16) h]
  · simp [parseWritePatch, below_eq_none (n := 240) h]
  · simp [parseWritePatch, fineOfCode_eq_none h present]
  · cases coarse : below 240 fi with
    | none => simp [parseWritePatch, coarse]
    | some k => simp [parseWritePatch, coarse, fineOfCode_of_coarse coarse, guardSome]
  · simp [parseWritePatch, below_eq_none (n := 8) h]

theorem parseWriteChannel_range {ch pr me r1 r0 fa ph : Byte}
    (wrong : 23 < ch.toNat ∨ 15 < pr.toNat ∨ 2 < me.toNat ∨ 1 < fa.toNat ∨ 3 < ph.toNat) :
    parseWriteChannel [ch, pr, me, r1, r0, fa, ph] = none := by
  rcases wrong with h | h | h | h | h
  · simp [parseWriteChannel, below_eq_none (n := 24) h]
  · simp [parseWriteChannel, below_eq_none (n := 16) h]
  · simp [parseWriteChannel, mergeRuleOfCode_eq_none h]
  · simp [parseWriteChannel, faultActionOfCode_eq_none h]
  · simp [parseWriteChannel, below_eq_none (n := 4) h]

theorem parseWriteProfile_delete {n act : Byte} (wrong : n.toNat = 0 ∨ 15 < n.toNat ∨ act ≠ 0) :
    parseWriteProfile [n, act] = none := by
  rcases or_assoc.mpr wrong with h | h
  · simp [parseWriteProfile, profileCell_eq_none h]
  · have h : ¬ act = 0#8 := h
    simp [parseWriteProfile, guardSome, h]

/-- The bounds of an accepted body rise from above 0, and no word of it is 0 (R155). -/
theorem parseProfileBody_words {delay : Byte} {k : Nat} {rest : List Byte} {p : Profile}
    (h : parseProfileBody delay k rest = some p) :
    (0 : BitVec 16) ∉ wordsOf rest ∧ ((wordsOf rest).take (k - 1)).Pairwise (· < ·) := by
  unfold parseProfileBody at h
  obtain ⟨right, -⟩ := guardSome_eq_some.mp h
  simp only [Bool.and_eq_true, decide_eq_true_eq, List.all_eq_true] at right
  obtain ⟨⟨-, rising⟩, steps⟩ := right
  obtain ⟨positive, ascending⟩ := List.pairwise_cons.mp (List.isChain_iff_pairwise.mp ((strictlyRising_iff _).mp rising))
  refine ⟨fun zero => ?_, (List.pairwise_map.mp ascending).imp BitVec.lt_def.mpr⟩
  rw [← List.take_append_drop (k - 1) (wordsOf rest)] at zero
  rcases List.mem_append.mp zero with bound | step
  · exact absurd (positive _ (List.mem_map_of_mem bound)) (by simp)
  · exact steps 0 step rfl

theorem parseWriteProfile_define {n act delay k : Byte} {rest : List Byte}
    (wrong : n.toNat = 0 ∨ 15 < n.toNat ∨ act ≠ 1 ∨ k.toNat = 0 ∨ 4 < k.toNat ∨ rest.length + 4 ≠ 2 + 6 * k.toNat
      ∨ (0 : BitVec 16) ∈ wordsOf rest ∨ ¬ ((wordsOf rest).take (k.toNat - 1)).Pairwise (· < ·)) :
    parseWriteProfile (n :: act :: delay :: k :: rest) = none := by
  rw [Option.eq_none_iff_forall_ne_some]
  intro c read
  simp only [parseWriteProfile, Option.bind_eq_bind, Option.bind_eq_some_iff, guardSome_eq_some, beq_iff_eq] at read
  obtain ⟨cell, number, body, shape, define, -⟩ := read
  obtain ⟨-, least, most, whole⟩ := parseProfileBody_ok shape
  obtain ⟨no_zero, ascending⟩ := parseProfileBody_words shape
  rcases or_assoc.mpr wrong with h | h | h | h | h | h | h
  · rw [profileCell_eq_none h] at number
    cases number
  · exact h define
  · omega
  · omega
  · exact h whole
  · exact no_zero h
  · exact h ascending

theorem parseWriteCurve_range {n act : Byte} {rest : List Byte}
    (wrong : n.toNat = 0 ∨ 7 < n.toNat ∨ (act ≠ 0 ∨ rest ≠ []) ∧ (act ≠ 1 ∨ rest.length ≠ 34)) :
    parseWriteCurve (n :: act :: rest) = none := by
  rcases or_assoc.mpr wrong with h | ⟨delete, define⟩
  · cases rest <;> simp [parseWriteCurve, curveCell_eq_none h]
  · cases rest with
    | nil =>
      have delete : ¬ act = 0#8 := by simpa using delete
      simp [parseWriteCurve, guardSome, delete]
    | cons b rest =>
      have define : ¬ (act = 1 ∧ (b :: rest).length = 34) := fun ⟨set, length⟩ => define.elim (absurd set) (absurd length)
      have refused : (act == 1 && decide ((b :: rest).length = 34)) = false := by
        rw [← Bool.not_eq_true, Bool.and_eq_true, beq_iff_eq, decide_eq_true_eq]
        exact define
      simp only [parseWriteCurve, guardSome, refused]
      simp

theorem parseWriteScene_delete {n act : Byte} (wrong : 7 < n.toNat ∨ act ≠ 0) : parseWriteScene [n, act] = none := by
  rcases wrong with h | h
  · simp [parseWriteScene, below_eq_none (n := 8) h]
  · have h : ¬ act = 0#8 := h
    simp [parseWriteScene, guardSome, h]

theorem countChannels_inMask_zero : countChannels (inMask 0#24) = 0 := by simp [countChannels, inMask]

theorem parseWriteScene_define {n act m2 m1 m0 : Byte} {rest : List Byte}
    (wrong : 7 < n.toNat ∨ act ≠ 1 ∨ maskOf m2 m1 m0 = 0
      ∨ rest.length ≠ 2 * countChannels (inMask (maskOf m2 m1 m0))) :
    parseWriteScene (n :: act :: m2 :: m1 :: m0 :: rest) = none := by
  rcases wrong with h | h | h | h
  · simp [parseWriteScene, below_eq_none (n := 8) h]
  · have h : ¬ act = 1#8 := h
    simp [parseWriteScene, guardSome, h]
  · simp [parseWriteScene, guardSome, h, countChannels_inMask_zero]
  · simp [parseWriteScene, guardSome, h]

theorem parseSetStream_range {st en t1 t0 po sc : Byte}
    (wrong : 15 < st.toNat ∨ 1 < en.toNat ∨ 2 < po.toNat ∨ 7 < sc.toNat) :
    parseSetStream [st, en, t1, t0, po, sc] = none := by
  rcases wrong with h | h | h | h
  · simp [parseSetStream, below_eq_none (n := 16) h]
  · simp [parseSetStream, flagOfCode_eq_none h]
  · simp [parseSetStream, policyOfCodes_eq_none h]
  · simp [parseSetStream, below_eq_none (n := 8) h]

theorem parseRecallScene_scene {n : Byte} {rest : List Byte} (wrong : 7 < n.toNat) :
    parseRecallScene (n :: rest) = none := by
  have scene := below_eq_none (n := 8) wrong
  match rest with
  | [] | [_] | [_, _, _] | [_, _, _, _] => simp [parseRecallScene, scene]
  | [_, _] | _ :: _ :: _ :: _ :: _ :: _ => rfl

theorem parseRecallScene_profile {n p m2 m1 m0 : Byte} (wrong : 15 < p.toNat) :
    parseRecallScene [n, p] = none ∧ parseRecallScene [n, m2, m1, m0, p] = none := by
  simp [parseRecallScene, below_eq_none (n := 16) wrong]

theorem parseStartAudit_range {m2 m1 m0 l1 l0 d : Byte}
    (wrong : maskOf m2 m1 m0 = 0 ∨ wordOf l1 l0 = 0 ∨ d.toNat < 4 ∨ 64 < d.toNat) :
    parseStartAudit [m2, m1, m0, l1, l0, d] = none := by
  rcases wrong with h | h | h | h
  · simp [parseStartAudit, guardSome, h]
  · simp [parseStartAudit, guardSome, h]
  · simp [parseStartAudit, guardSome, Nat.not_le.mpr h]
  · simp [parseStartAudit, guardSome, Nat.not_le.mpr h]

theorem setOfCode_eq_some {b : Byte} {t : SetName} (h : setOfCode b = some t) : b.toNat ≤ 1 := by
  by_contra above
  rw [setOfCode_eq_none (by omega)] at h
  cases h

/-- The fields of a READ that is accepted lie in the ranges of its item (R166). -/
theorem parseReadItem_range {item set index part : Byte} {x : ReadItem} (h : parseReadItem item set index part = some x) :
    item = 1 ∧ set.toNat ≤ 1 ∧ index.toNat < 48 ∧ part = 0 ∨ item = 2 ∧ set.toNat ≤ 1 ∧ index.toNat < 24 ∧ part = 0
      ∨ item = 3 ∧ set.toNat ≤ 1 ∧ index.toNat < 16 ∧ part.toNat < 2
      ∨ item = 4 ∧ set.toNat ≤ 1 ∧ index.toNat < 8 ∧ part.toNat < 3
      ∨ item = 5 ∧ set.toNat ≤ 1 ∧ index.toNat < 8 ∧ part.toNat < 4
      ∨ item = 6 ∧ set = 0 ∧ index.toNat < 24 ∧ part = 0 ∨ item = 7 ∧ set = 0 ∧ index.toNat < 16 ∧ part = 0
      ∨ item = 8 ∧ set = 0 ∧ index = 0 ∧ part = 0 := by
  have small {n : Nat} {b : Byte} {i : Fin n} (h : below n b = some i) : b.toNat < n := below_eq_some h ▸ i.isLt
  unfold parseReadItem at h
  simp only [Option.bind_eq_bind] at h
  obtain ⟨rfl, found⟩ | ⟨-, h⟩ := ite_eq_iff.mp h
  · simp only [Option.bind_eq_some_iff, guardSome_eq_some, beq_iff_eq] at found
    obtain ⟨t, s, k, i, p, -⟩ := found
    exact .inl ⟨rfl, setOfCode_eq_some s, small i, p⟩
  obtain ⟨rfl, found⟩ | ⟨-, h⟩ := ite_eq_iff.mp h
  · simp only [Option.bind_eq_some_iff, guardSome_eq_some, beq_iff_eq] at found
    obtain ⟨t, s, k, i, p, -⟩ := found
    exact .inr (.inl ⟨rfl, setOfCode_eq_some s, small i, p⟩)
  obtain ⟨rfl, found⟩ | ⟨-, h⟩ := ite_eq_iff.mp h
  · simp only [Option.bind_eq_some_iff] at found
    obtain ⟨t, s, k, i, j, p, -⟩ := found
    exact .inr (.inr (.inl ⟨rfl, setOfCode_eq_some s, small i, small p⟩))
  obtain ⟨rfl, found⟩ | ⟨-, h⟩ := ite_eq_iff.mp h
  · simp only [Option.bind_eq_some_iff] at found
    obtain ⟨t, s, k, i, j, p, -⟩ := found
    exact .inr (.inr (.inr (.inl ⟨rfl, setOfCode_eq_some s, small i, small p⟩)))
  obtain ⟨rfl, found⟩ | ⟨-, h⟩ := ite_eq_iff.mp h
  · simp only [Option.bind_eq_some_iff] at found
    obtain ⟨t, s, k, i, j, p, -⟩ := found
    exact .inr (.inr (.inr (.inr (.inl ⟨rfl, setOfCode_eq_some s, small i, small p⟩))))
  obtain ⟨rfl, found⟩ | ⟨-, h⟩ := ite_eq_iff.mp h
  · simp only [Option.bind_eq_some_iff, guardSome_eq_some, Bool.and_eq_true, beq_iff_eq] at found
    obtain ⟨k, i, ⟨s, p⟩, -⟩ := found
    exact .inr (.inr (.inr (.inr (.inr (.inl ⟨rfl, s, small i, p⟩)))))
  obtain ⟨rfl, found⟩ | ⟨-, h⟩ := ite_eq_iff.mp h
  · simp only [Option.bind_eq_some_iff, guardSome_eq_some, Bool.and_eq_true, beq_iff_eq] at found
    obtain ⟨k, i, ⟨s, p⟩, -⟩ := found
    exact .inr (.inr (.inr (.inr (.inr (.inr (.inl ⟨rfl, s, small i, p⟩))))))
  obtain ⟨rfl, found⟩ | ⟨-, h⟩ := ite_eq_iff.mp h
  · simp only [guardSome_eq_some, Bool.and_eq_true, beq_iff_eq] at found
    obtain ⟨⟨⟨s, i⟩, p⟩, -⟩ := found
    exact .inr (.inr (.inr (.inr (.inr (.inr (.inr ⟨rfl, s, i, p⟩))))))
  cases h

theorem parseRead_range {item set index part : Byte}
    (wrong : item.toNat = 0 ∨ 8 < item.toNat ∨ 1 < set.toNat ∨ 5 < item.toNat ∧ set ≠ 0
      ∨ (item = 1 ∧ (47 < index.toNat ∨ part ≠ 0)) ∨ (item = 2 ∧ (23 < index.toNat ∨ part ≠ 0))
      ∨ (item = 3 ∧ (15 < index.toNat ∨ 1 < part.toNat)) ∨ (item = 4 ∧ (7 < index.toNat ∨ 2 < part.toNat))
      ∨ (item = 5 ∧ (7 < index.toNat ∨ 3 < part.toNat)) ∨ (item = 6 ∧ (23 < index.toNat ∨ part ≠ 0))
      ∨ (item = 7 ∧ (15 < index.toNat ∨ part ≠ 0)) ∨ (item = 8 ∧ (index ≠ 0 ∨ part ≠ 0))) :
    parseRead [item, set, index, part] = none := by
  rw [parseRead, Option.map_eq_none_iff, Option.eq_none_iff_forall_ne_some]
  intro x read
  rcases parseReadItem_range read with ⟨rfl, s, i, p⟩ | ⟨rfl, s, i, p⟩ | ⟨rfl, s, i, p⟩ | ⟨rfl, s, i, p⟩ | ⟨rfl, s, i, p⟩
    | ⟨rfl, s, i, p⟩ | ⟨rfl, s, i, p⟩ | ⟨rfl, s, i, p⟩
  all_goals
    simp [s, i, p] at wrong
    try omega

end Sys2Proof.Machine

open Sys2Proof Sys2Proof.Machine

/-- Settles O36: each block by what its parser finds wrong with it; every row then adds one record. -/
theorem wrongParametersRefused : Obligations.WrongParametersRefused := by
  intro s seq takes refuses
  have urgent {code : Byte} {p : List Byte} (is_urgent : isUrgent code = true) (fits : p.length ≤ 64)
      (wrong : lengthAllowed code p.length = false) : refuses code p := fun row named =>
    exec_refused_at_parse takes fits named (parse_wrong_length named wrong) (.inl is_urgent)
  refine ⟨?urgent, ?status, fun idle => ?normal⟩
  case urgent =>
    intro code p is_urgent some_params fits
    have longer : p.length ≠ 0 := fun none => some_params (List.eq_nil_of_length_eq_zero none)
    rcases is_urgent with rfl | rfl | rfl
    all_goals exact urgent rfl fits (by simp [lengthAllowed, some_params])
  case status =>
    intro set index part wrong row named
    refine exec_refused_at_parse takes (by simp) named (parse_eq_badParam (f := parseRead) rfl (parseRead_range ?_))
      (.inr (.inl rfl))
    rcases wrong with h | h | h
    · exact .inr (.inr (.inr (.inl ⟨by decide, h⟩)))
    · exact .inr (.inr (.inr (.inr (.inr (.inr (.inr (.inr (.inr (.inr (.inr ⟨rfl, .inl h⟩))))))))))
    · exact .inr (.inr (.inr (.inr (.inr (.inr (.inr (.inr (.inr (.inr (.inr ⟨rfl, .inr h⟩))))))))))
  case normal =>
    have refused {code : Byte} {p : List Byte} {f : List Byte → Option Cmd} (parser : parserOf code = some f)
        (fits : p.length ≤ 64) (wrong : f p = none) : refuses code p := fun row named =>
      exec_refused_at_parse takes fits named (parse_eq_badParam parser wrong) (.inr (.inr idle))
    refine ⟨fun code p fits wrong row named =>
        exec_refused_at_parse takes fits named (parse_wrong_length named wrong) (.inr (.inr idle)),
      fun p g few there wrong => refused (f := parseSetGroups) rfl (few.trans (by decide)) (parseSetGroups_range there wrong),
      fun p few twice => refused (f := parseSetGroups) rfl (few.trans (by decide)) (parseSetGroups_twice twice),
      fun ch pos act wrong => refused (f := parseWritePatch) rfl (by simp) (parseWritePatch_clear wrong),
      fun ch pos act st co fi cu wrong => refused (f := parseWritePatch) rfl (by simp) (parseWritePatch_set wrong),
      fun ch pr me r1 r0 fa ph wrong => refused (f := parseWriteChannel) rfl (by simp) (parseWriteChannel_range wrong),
      fun n act wrong => refused (f := parseWriteProfile) rfl (by simp) (parseWriteProfile_delete wrong),
      fun n act delay k rest fits wrong =>
        refused (f := parseWriteProfile) rfl (by simp only [List.length_cons]; omega) (parseWriteProfile_define wrong),
      fun n act rest fits wrong =>
        refused (f := parseWriteCurve) rfl (by simp only [List.length_cons]; omega) (parseWriteCurve_range wrong),
      fun n act wrong => refused (f := parseWriteScene) rfl (by simp) (parseWriteScene_delete wrong),
      fun n act m2 m1 m0 rest fits wrong =>
        refused (f := parseWriteScene) rfl (by simp only [List.length_cons]; omega) (parseWriteScene_define wrong),
      fun st en t1 t0 po sc wrong => refused (f := parseSetStream) rfl (by simp) (parseSetStream_range wrong),
      fun n rest fits wrong =>
        refused (f := parseRecallScene) rfl (by simp only [List.length_cons]; omega) (parseRecallScene_scene wrong),
      fun n p m2 m1 m0 wrong => ⟨refused (f := parseRecallScene) rfl (by simp) (parseRecallScene_profile (m2 := 0) (m1 := 0) (m0 := 0) wrong).1,
        refused (f := parseRecallScene) rfl (by simp) (parseRecallScene_profile wrong).2⟩,
      fun m2 m1 m0 l1 l0 d wrong => refused (f := parseStartAudit) rfl (by simp) (parseStartAudit_range wrong),
      fun item set index part wrong => refused (f := parseRead) rfl (by simp) (parseRead_range wrong)⟩

/-- Settles O37: the duplicate check comes first, then the queue with its four places. -/
theorem duplicatesIgnoredNormalsQueued : Obligations.DuplicatesIgnoredNormalsQueued := by
  intro s row code seq params hears named fits
  rw [exec_commandOf named, commandRow_heard hears fits]
  refine ⟨fun held => by rw [takeCommand_held held], fun free busy off abort reset other => ?_⟩
  have normal := isUrgent_eq_false off abort reset
  have waits := isNodeStatusRead_eq_false other
  exact ⟨fun room => by rw [takeCommand_queued free normal waits busy room],
    fun full => by rw [takeCommand_queueFull free normal waits busy full]⟩
end

section
/-! PROOF. What the level path does not look at (O2, O11): the waiting commands, the tick count, the free values, but for
the node address the ring interface, and the command queue. Changing them before a command or after it comes to the same. -/

namespace Sys2Proof.Machine

/-! ### The checks of references of SET STREAM and RECALL SCENE (R26, R68) -/

/-- A policy SCENE names a scene that is defined where it is needed. -/
def policyNamed (s : State) : LossPolicy → Bool
  | .scene n => definedInBoth s fun t => (t.scenes.get n).isSome
  | _ => true

/-- A profile given is defined where it is needed. -/
def profileNamed (s : State) : Option (Fin 16) → Bool
  | some p => definedInBoth s fun t => (profileOf t p).isSome
  | none => true

theorem effectSetStream_named {s : State} {q : LossPolicy} (named : policyNamed s q = true) (i : StreamId) (e : Bool)
    (t : TimeoutSetting) :
    effectSetStream i e t q s
      = (applySetStream i e t q s, .done [streamStateCode ((applySetStream i e t q s).streams.get i).state]) := by
  cases q with
  | scene n => exact if_pos named
  | hold | release => rfl

theorem effectSetStream_unnamed {s : State} {q : LossPolicy} (unnamed : policyNamed s q = false) (i : StreamId) (e : Bool)
    (t : TimeoutSetting) : effectSetStream i e t q s = (s, .refused .undefinedRef []) := by
  cases q with
  | scene n => exact if_neg (Bool.eq_false_iff.mp unnamed)
  | hold | release => cases unnamed

/-- The override of a channel after a RECALL SCENE (R27). -/
def recalledOverride (s : State) (n : Fin 8) (mask : Option Mask) (q : Option (Fin 16)) (c : Channel) : Option Override :=
  match sceneLevel s.active n c with
  | some l =>
    if recalled s n mask c then some { origin := .command, level := l, profile := q } else s.target.overrides.get c
  | none => s.target.overrides.get c

/-- The overrides of a RECALL SCENE are set, before the recomputation (R27). -/
def sceneRecalled (s : State) (n : Fin 8) (mask : Option Mask) (q : Option (Fin 16)) : State :=
  { s with target := { s.target with overrides := Tab.of (recalledOverride s n mask q) } }

theorem effectRecallScene_named {s : State} {n : Fin 8} {q : Option (Fin 16)} (scene : (s.active.scenes.get n).isSome = true)
    (named : profileNamed s q = true) (mask : Option Mask) :
    effectRecallScene n mask q s
      = (recompute (recalled s n mask) (sceneRecalled s n mask q), .done [byteOf (countChannels (recalled s n mask))]) := by
  have both : ((s.active.scenes.get n).isSome && profileNamed s q) = true := by rw [scene, named]; rfl
  cases q <;>
    · simp only [profileNamed] at both
      simp only [effectRecallScene, both, if_true]
      rfl

theorem effectRecallScene_unnamed {s : State} {n : Fin 8} {q : Option (Fin 16)}
    (unnamed : ((s.active.scenes.get n).isSome && profileNamed s q) = false) (mask : Option Mask) :
    effectRecallScene n mask q s = (s, .refused .undefinedRef []) := by
  cases q <;>
    · simp only [profileNamed] at unnamed
      simp only [effectRecallScene, unnamed, Bool.false_eq_true, if_false]

/-! ### Another link and another queue -/

/-- The state with other waiting commands, ring interface, tick count, count of free values and command queue. -/
def requeued (p : List Instr) (r : Ring) (k n : Nat) (w : List Record) (s : State) : State :=
  { s with pending := p, ring := r, tickCount := k, freeCount := n, command := { s.command with queue := w } }

section

variable (p : List Instr) (r : Ring) (k n : Nat) (w : List Record) (s : State)

@[simp] theorem requeued_streams : (requeued p r k n w s).streams = s.streams := rfl
@[simp] theorem requeued_active : (requeued p r k n w s).active = s.active := rfl
@[simp] theorem requeued_staging : (requeued p r k n w s).staging = s.staging := rfl
@[simp] theorem requeued_patch : (requeued p r k n w s).patch = s.patch := rfl
@[simp] theorem requeued_target : (requeued p r k n w s).target = s.target := rfl
@[simp] theorem requeued_ramps : (requeued p r k n w s).ramps = s.ramps := rfl
@[simp] theorem requeued_output : (requeued p r k n w s).output = s.output := rfl
@[simp] theorem requeued_audit : (requeued p r k n w s).audit = s.audit := rfl
@[simp] theorem requeued_command : (requeued p r k n w s).command = { s.command with queue := w } := rfl

/-! ### What is read of a state -/

@[simp] theorem targetOf_requeued : targetOf (requeued p r k n w s) = targetOf s :=
  funext fun c => targetOf_congr (s := s) rfl rfl rfl rfl c

@[simp] theorem profileFor_requeued : profileFor (requeued p r k n w s) = profileFor s :=
  funext fun c => profileFor_congr (s := s) rfl rfl c

@[simp] theorem hasPresent_requeued (i : StreamId) : hasPresent (requeued p r k n w s) i = hasPresent s i := by
  funext c
  simp only [hasPresent, presentFrom, entryAt, contributionAt, requeued_active, requeued_patch]

@[simp] theorem heldByLoss_requeued (i : StreamId) : heldByLoss (requeued p r k n w s) i = heldByLoss s i := by
  funext c
  simp only [heldByLoss, requeued_target]

@[simp] theorem lossOverride_requeued : lossOverride (requeued p r k n w s) = lossOverride s :=
  funext fun c => lossOverride_congr (s := s) rfl rfl c

@[simp] theorem forcedOff_requeued : forcedOff (requeued p r k n w s) = forcedOff s := by
  funext c
  simp only [forcedOff, requeued_output, requeued_active]

@[simp] theorem outputLevel_requeued : outputLevel (requeued p r k n w s) = outputLevel s := by
  funext c
  simp only [outputLevel, shownLevel, forcedOff_requeued, requeued_output, requeued_audit, requeued_ramps]

@[simp] theorem isUnderTest_requeued : isUnderTest (requeued p r k n w s) = isUnderTest s := by
  funext c
  simp only [isUnderTest, requeued_audit]

/-! ### What is done to a state -/

theorem recompute_requeued (chosen : Channel → Bool) :
    recompute chosen (requeued p r k n w s) = requeued p r k n w (recompute chosen s) := by
  unfold recompute
  simp only [targetOf_requeued, profileFor_requeued, requeued_target, requeued_ramps]
  rfl

theorem formOutputs_requeued : formOutputs (requeued p r k n w s) = requeued p r k n w (formOutputs s) := by
  unfold formOutputs
  simp only [outputLevel_requeued, isUnderTest_requeued, requeued_output]
  rfl

theorem reexamine_requeued (chosen : Channel → Bool) :
    reexamine chosen (requeued p r k n w s) = requeued p r k n w (reexamine chosen s) := by
  unfold reexamine
  simp only [lossOverride_requeued, requeued_target]
  rfl

theorem removeOverrides_requeued (chosen : Channel → Bool) :
    removeOverrides chosen (requeued p r k n w s) = requeued p r k n w (removeOverrides chosen s) := rfl

theorem reverseLoss_requeued (i : StreamId) : reverseLoss i (requeued p r k n w s) = requeued p r k n w (reverseLoss i s) := by
  simp only [reverseLoss, heldByLoss_requeued, removeOverrides_requeued, reexamine_requeued]

theorem applyLossScene_requeued (i : StreamId) (m : Fin 8) :
    applyLossScene i m (requeued p r k n w s) = requeued p r k n w (applyLossScene i m s) := rfl

theorem setStream_requeued (i : StreamId) (x : StreamRecord) :
    setStream i x (requeued p r k n w s) = requeued p r k n w (setStream i x s) := rfl

theorem dropValues_requeued (i : StreamId) : dropValues i (requeued p r k n w s) = requeued p r k n w (dropValues i s) := rfl

@[simp] theorem overrideDiffers_requeued (t : State) :
    overrideDiffers (requeued p r k n w s) (requeued p r k n w t) = overrideDiffers s t := rfl

theorem commit_requeued : commit (requeued p r k n w s) = requeued p r k n w (commit s) := by
  unfold commit
  rw [← formOutputs_requeued, ← recompute_requeued]
  rfl

theorem endAudit_requeued (result : ResultCode) :
    endAudit result (requeued p r k n w s) = requeued p r k n w (endAudit result s) := by
  unfold endAudit
  simp only [requeued_audit, requeued_command]
  cases s.audit.run with
  | none => rfl
  | some run =>
    cases running : s.command.running with
    | none => simp only [requeued, running]
    | some record =>
      simp only [requeued, running]
      rfl

theorem abortAudit_requeued : abortAudit (requeued p r k n w s) = requeued p r k n w (abortAudit s) := by
  unfold abortAudit
  simp only [requeued_audit]
  cases s.audit.run with
  | none => rfl
  | some run =>
    dsimp only
    rw [← endAudit_requeued]
    rfl

theorem applyLoss_requeued (i : StreamId) : applyLoss i (requeued p r k n w s) = requeued p r k n w (applyLoss i s) := by
  unfold applyLoss
  simp only [requeued_streams, hasPresent_requeued, applyLossScene_requeued, recompute_requeued, overrideDiffers_requeued]
  cases (s.streams.get i).policy <;> rfl

theorem loseStream_requeued (i : StreamId) : loseStream i (requeued p r k n w s) = requeued p r k n w (loseStream i s) := by
  simp only [loseStream, requeued_streams, setStream_requeued, applyLoss_requeued]

theorem examineExpiry_requeued (i : StreamId) :
    examineExpiry i (requeued p r k n w s) = requeued p r k n w (examineExpiry i s) := by
  simp only [examineExpiry, requeued_streams, loseStream_requeued]
  split <;> rfl

theorem disableStream_requeued (i : StreamId) (x : StreamRecord) :
    disableStream i x (requeued p r k n w s) = requeued p r k n w (disableStream i x s) := by
  simp only [disableStream, setStream_requeued, dropValues_requeued, reverseLoss_requeued, recompute_requeued,
    heldByLoss_requeued, requeued_patch]

theorem changeLostPolicy_requeued (i : StreamId) (old : LossPolicy) :
    changeLostPolicy i old (requeued p r k n w s) = requeued p r k n w (changeLostPolicy i old s) := by
  unfold changeLostPolicy
  simp only [requeued_streams, reverseLoss_requeued]
  split
  · rfl
  · cases (s.streams.get i).policy <;>
      simp only [applyLossScene_requeued, recompute_requeued, heldByLoss_requeued, overrideDiffers_requeued,
        hasPresent_requeued]

theorem applySetStream_requeued (i : StreamId) (enable : Bool) (t : TimeoutSetting) (q : LossPolicy) :
    applySetStream i enable t q (requeued p r k n w s) = requeued p r k n w (applySetStream i enable t q s) := by
  unfold applySetStream
  simp only [requeued_streams, setStream_requeued, examineExpiry_requeued, changeLostPolicy_requeued,
    disableStream_requeued]
  cases (s.streams.get i).state <;> cases enable <;> rfl

theorem takeNext_requeued (l : List Channel) (run : AuditRun) (results : Tab 24 AuditResult) :
    takeNext l run results (requeued p r k n w s) = requeued p r k n w (takeNext l run results s) := by
  simp only [takeNext, forcedOff_requeued]
  rfl

theorem stage_requeued (write : TableSet → TableSet) :
    stage write (requeued p r k n w s) = (requeued p r k n w (stage write s).1, (stage write s).2) := by
  unfold stage
  simp only [requeued_staging]
  cases s.staging.state <;> rfl

theorem validated_requeued (t : State) (e : Ended) :
    validated (requeued p r k n w s) (requeued p r k n w t, e)
      = (requeued p r k n w (validated s (t, e)).1, (validated s (t, e)).2) := by
  unfold validated
  simp only [requeued_staging, requeued_target, requeued_streams]
  split <;> rfl

/-- The effect of a command other than NODE RESET and a READ of node status reads nothing of the waiting commands, the ring
interface, the counts and the queue; it leaves them all as they are. -/
theorem effect_requeued {c : Cmd} (keeps : c ≠ .nodeReset) (blind : c ≠ .read .nodeStatus) :
    effect c (requeued p r k n w s) = (requeued p r k n w (effect c s).1, (effect c s).2) := by
  cases c with
  | writePatch | writeChannel | writeProfile | writeCurve | writeScene =>
    simp only [effect, effectWritePatch, effectWriteChannel, effectWriteProfile, effectWriteCurve, effectWriteScene,
      stage_requeued]
  | arm e =>
    simp only [effect, effectArm, requeued_staging]
    cases s.staging.state with
    | armed _ => rfl
    | clean | edited => exact validated_requeued p r k n w s { s with staging := { s.staging with state := .armed e } } (.done [])
  | disarm =>
    simp only [effect, effectDisarm, requeued_staging]
    cases s.staging.state <;> rfl
  | commitNow =>
    simp only [effect, effectCommitNow, requeued_staging, commit_requeued]
    cases s.staging.state with
    | edited => exact validated_requeued p r k n w s (commit s) (.done [])
    | clean | armed _ => rfl
  | setStream i e t q =>
    have checks : policyNamed (requeued p r k n w s) q = policyNamed s q := by cases q <;> rfl
    simp only [effect]
    cases named : policyNamed s q with
    | true => rw [effectSetStream_named (checks.trans named), effectSetStream_named named, applySetStream_requeued]; rfl
    | false => rw [effectSetStream_unnamed (checks.trans named), effectSetStream_unnamed named]
  | recallScene m mask q =>
    have checks : profileNamed (requeued p r k n w s) q = profileNamed s q := by cases q <;> rfl
    simp only [effect]
    cases both : ((s.active.scenes.get m).isSome && profileNamed s q) with
    | true =>
      obtain ⟨scene, named⟩ := Bool.and_eq_true_iff.mp both
      rw [effectRecallScene_named (s := requeued p r k n w s) scene (checks.trans named), effectRecallScene_named scene named,
        ← recompute_requeued]
      rfl
    | false =>
      rw [effectRecallScene_unnamed (s := requeued p r k n w s) (by rw [checks]; exact both), effectRecallScene_unnamed both]
  | release m =>
    simp only [effect, effectRelease, requeued_target, removeOverrides_requeued, reexamine_requeued, recompute_requeued]
  | outputsOn | clearFaults | setCeiling =>
    simp only [effect, effectOutputsOn, effectClearFaults, effectSetCeiling, ← formOutputs_requeued]
    rfl
  | outputsOff =>
    simp only [effect, effectOutputsOff, ← formOutputs_requeued, ← abortAudit_requeued]
    rfl
  | startAudit m l d =>
    simp only [effect, effectStartAudit, requeued_output, beginAudit, takeNext_requeued, requeued_audit]
    split
    · rfl
    · split
      · split
        · simp only [formOutputs_requeued]
        · rw [← formOutputs_requeued]
          rfl
      · rfl
  | abortAudit =>
    simp only [effect, effectAbortAudit, requeued_audit, abortAudit_requeued, formOutputs_requeued]
    split <;> rfl
  | read x =>
    cases x with
    | nodeStatus => exact absurd rfl blind
    | patchEntry set | channelConfig set | profile set | curve set | scene set => cases set <;> rfl
    | channelStatus | streamStatus => rfl
  | setGroups | copyActive => rfl
  | nodeReset => exact absurd rfl keeps

end

/-- The state with other waiting commands, ring interface, tick count and count of free values. -/
def relinked (p : List Instr) (r : Ring) (k n : Nat) (s : State) : State :=
  { s with pending := p, ring := r, tickCount := k, freeCount := n }

@[simp] theorem relinked_command (p : List Instr) (r : Ring) (k n : Nat) (s : State) :
    (relinked p r k n s).command = s.command := rfl

theorem relinked_eq (p : List Instr) (r : Ring) (k n : Nat) (s : State) :
    relinked p r k n s = requeued p r k n s.command.queue s := rfl

theorem commit_relinked (p : List Instr) (r : Ring) (k n : Nat) (s : State) :
    commit (relinked p r k n s) = relinked p r k n (commit s) := by
  rw [relinked_eq, commit_requeued, relinked_eq, commit_command]

/-- Every command but NODE RESET leaves the command queue as it is. -/
theorem effect_queue {c : Cmd} (keeps : c ≠ .nodeReset) (s : State) : (effect c s).1.command.queue = s.command.queue := by
  by_cases reads : c = .read .nodeStatus
  · rw [reads]
    rfl
  · have same := congrArg Prod.fst
      (effect_requeued s.pending s.ring s.tickCount s.freeCount s.command.queue s keeps reads)
    rw [show requeued s.pending s.ring s.tickCount s.freeCount s.command.queue s = s from rfl] at same
    rw [same]
    rfl

/-- The effect of a command reads nothing of the ring interface but the node address, and nothing of the waiting commands and
the counts; it leaves them all as they are. -/
theorem effect_relinked (p : List Instr) (r : Ring) (k n : Nat) (s : State) (same : r.address = s.ring.address) (c : Cmd) :
    effect c (relinked p r k n s) = (relinked p r k n (effect c s).1, (effect c s).2) := by
  by_cases resets : c = .nodeReset
  · rw [resets]
    rfl
  by_cases reads : c = .read .nodeStatus
  · rw [reads]
    have status : readNodeStatus (relinked p r k n s) = readNodeStatus s := by
      simp only [readNodeStatus]
      rw [show (relinked p r k n s).ring.address = s.ring.address from same]
      rfl
    simp only [effect, effectRead, readData, status]
  · rw [relinked_eq, relinked_eq, effect_queue resets, effect_requeued p r k n s.command.queue s resets reads]

/-- The effect of a command leaves the waiting commands, the ring interface and the counts as they are. -/
theorem effect_keeps (c : Cmd) (s : State) :
    (effect c s).1 = relinked s.pending s.ring s.tickCount s.freeCount (effect c s).1 :=
  congrArg Prod.fst (effect_relinked s.pending s.ring s.tickCount s.freeCount s rfl c)

@[simp] theorem effect_pending (c : Cmd) (s : State) : (effect c s).1.pending = s.pending := by rw [effect_keeps]; rfl
@[simp] theorem effect_ring (c : Cmd) (s : State) : (effect c s).1.ring = s.ring := by rw [effect_keeps]; rfl

end Sys2Proof.Machine

open Sys2Proof Sys2Proof.Machine

/-- Settles O1: by the two shapes of the queue. -/
theorem stepTakesFrontCommand : Obligations.StepTakesFrontCommand := by
  refine ⟨fun c rest s front => ?_, fun s empty => ?_⟩
  · simp only [step, front]
  · simp only [step, empty]

/-- Settles O3: every table of the reset state holds one value, so each cell is read off. -/
theorem resetMeetsInvariants : Obligations.ResetMeetsInvariants := by
  have profiles : ∀ c, (profileOf TableSet.reset (TableSet.reset.config.get c).profile).isSome = true := by decide
  have refs : RefsDefined TableSet.reset (Tab.all none) (Tab.all StreamRecord.reset) :=
    ⟨by simp [TableSet.reset], profiles, by simp, by simp [StreamRecord.reset]⟩
  have tables : TableSetOk TableSet.reset := ⟨by simp [TableSet.reset], by simp [TableSet.reset], by simp [TableSet.reset]⟩
  refine ⟨?outputs, ?ramps, ⟨?streams, ?contributions, ?overrides, ?targets⟩, ?staging, ⟨tables, tables⟩, ⟨?window, ?audit⟩,
    ?monitors, ?link⟩
  case outputs =>
    intro c
    simp [State.reset, OutputStage.reset, ruledLevel]
  case ramps =>
    intro c
    simp [State.reset, Ramp.reset, TargetUnit.reset]
  case streams =>
    intro i
    simp [State.reset, StreamRecord.reset]
  case contributions =>
    intro k
    simp [State.reset, PatchUnit.reset, Contribution.absent]
  case overrides =>
    intro c o i held
    simp [State.reset, TargetUnit.reset] at held
  case targets =>
    intro c
    have patch : ∀ q, usableValue State.reset c q = none := fun q => by
      simp [usableValue, usable, contributionAt, State.reset, PatchUnit.reset, Contribution.absent]
    simp only [targetOf, mergeResult, patch]
    simp [State.reset, TargetUnit.reset, TableSet.reset]
  case staging => exact ⟨refs, fun _ => rfl, fun e armed => by simp [State.reset, StagingUnit.reset] at armed⟩
  case window => simp [WindowOk, heldRecords, State.reset, CommandUnit.reset]
  case audit => simp [AuditOk, State.reset, CommandUnit.reset, AuditUnit.reset]
  case monitors =>
    intro c
    simp [State.reset, OutputStage.reset, Monitor.reset]
  case link => simp [LinkOk, State.reset, Ring.reset, CommandUnit.reset]
end

section
/-! PROOF. What every row keeps, and the waiting commands (O2): no part of a row touches them. -/

namespace Sys2Proof.Machine

/-! ### Every row -/

theorem arrival_ring (i : StreamId) (slots : List Byte) (s : State) : (arrival i slots s).ring = s.ring := by
  unfold arrival
  dsimp only
  split <;> simp [setStream]

theorem takeCommand_ring (seq code : Byte) (params : List Byte) (s : State) :
    (takeCommand seq code params s).ring = s.ring :=
  KeptByEffects.takeCommand (P := fun t => t.ring = s.ring)
    ⟨fun _ _ _ h => h, fun _ _ c t _ h => (effect_ring c t).trans h⟩ seq code params s rfl

/-- Each part of a row keeps the property: frames, the timed events and their sub-steps, a change of the thermal condition, and
the resets. -/
structure Kept (P : State → Prop) : Prop extends KeptByFrames P where
  switch : ∀ s r, (RingOk s.ring → RingOk r) → P s → P { s with ring := r }
  counts : ∀ s k n, P s → P { s with tickCount := k, freeCount := n }
  tick : ∀ order s, P s → P (takeTick order s)
  expiry : ∀ i s, P s → P (examineExpiry i s)
  boundary : ∀ peaks order s, P s → P (takeBoundary peaks order s)
  delay : ∀ (c : Channel) s, P s → P { s with ramps := s.ramps.put c (delayExpiry (s.ramps.get c)) }
  latch : ∀ (c : Channel) s, P s → P (formOutputs { s with output := { s.output with
    monitors := s.output.monitors.put c (settleLatch (s.output.monitors.get c)) } })
  dwell : ∀ s, P s → P (dwellEnd s)
  complete : ∀ s, P s → P (completeAudit s)
  thermal : ∀ new s, P s → P (changeThermal new s)
  reset : ∀ s, P s → P (powerOnState s)
  sensor : ∀ new s, P s → P { powerOnState s with output := OutputStage.reset new }

/-- A hold of the bypass switch lasts at most 10 character times (R189). -/
theorem holdMark_most (delay : Nat) (s : State) : (holdMark delay s).ring.holdLeft ≤ 100 := by
  have := (Config.switchHoldAbove4 s.freeCount).isLt
  simp only [holdMark]
  omega

/-- Characters leave the supply and the reset line as they are. -/
theorem keptByFrames_blocksRun (b : Bool) : KeptByFrames fun s => blocksRun s = b where
  ring := fun s r moved h => by
    simp only [blocksRun, moved.supply, moved.resetn]
    exact h
  arrival := fun i slots s _ h => by
    simp only [blocksRun, arrival_ring]
    exact h
  command := fun seq code params s h => by
    simp only [blocksRun, takeCommand_ring]
    exact h
  commit := fun s e _ h => by
    simp only [blocksRun, commit_ring]
    exact h

namespace Kept

variable {P : State → Prop} (kept : Kept P)
include kept

theorem holdMark (delay : Nat) (s : State) (h : P s) : P (holdMark delay s) :=
  kept.counts { s with ring := (Machine.holdMark delay s).ring } s.tickCount (s.freeCount + 1)
    (kept.switch s _ (fun ⟨range, up, hunt, _⟩ => ⟨range, up, hunt, holdMark_most delay s⟩) h)

theorem engage (s : State) (h : P s) : P (engage s) := by
  unfold Machine.engage
  dsimp only
  split
  · exact kept.switch _ _ (fun ⟨range, _, _, most⟩ => ⟨range, nofun, fun _ => rfl, most⟩) (kept.holdMark 0 s h)
  · exact kept.switch _ _ (fun ⟨range, _, _, most⟩ => ⟨range, nofun, fun _ => rfl, most⟩) h

theorem endHold (s : State) (h : P s) : P (endHold s) :=
  kept.switch s _ (fun ⟨range, up, hunt, _⟩ => ⟨range, up, hunt, Nat.zero_le _⟩) h

/-- With the bypass engaged the supply and the reset line may change. -/
theorem switched (supply resetn : Bool) (s : State) (h : P s) :
    P { Machine.engage s with ring := { (Machine.engage s).ring with supplyOk := supply, resetnHigh := resetn } } :=
  kept.switch _ _ (fun ⟨range, _, hunt, most⟩ => ⟨range, nofun, hunt, most⟩) (kept.engage s h)

theorem disengage {s : State} (runs : blocksRun s = true) (lineInSpace : Bool) (h : P s) : P (disengage lineInSpace s) :=
  kept.switch _ _ (fun ⟨range, _, _, most⟩ => ⟨range, fun _ => by simpa [blocksRun] using runs, nofun, most⟩)
    (kept.holdMark 1 s h)

theorem startSensor (d : Int) (s : State) (h : P s) : P (startSensor d (powerOnState s)) := by
  unfold Machine.startSensor
  split
  · exact kept.sensor (thermalAtStart d) s h
  · exact kept.reset s h

theorem commandRow (code seq : Byte) (params : List Byte) (s : State) (h : P s) : P (commandRow code seq params s) := by
  unfold Machine.commandRow
  split
  · exact kept.command _ _ _ s h
  · exact h

/-- What is kept by the parts of a row is kept by every row. -/
theorem exec (c : Instr) (s t : State) (h : P s) (run : exec c s = .next t) : P t := by
  cases c
  case levelFrame | commandFrame | pollFrame | enumerateFrame | syncFrame | healthFrame | unknownKindFrame =>
    cases run
    exact kept.frameRow _ _ _ _ s h
  case leadIn chars bits => cases run; exact kept.spaceRun _ _ _ (kept.receive _ _ (kept.clearOut s h))
  case frameBreak chars bits => cases run; exact kept.markRun _ _ (kept.receive _ _ (kept.clearOut s h))
  case framingError chars bad => cases run; exact kept.badCharacter _ _ (kept.receive _ _ (kept.clearOut s h))
  case tick order =>
    cases run
    split
    · exact kept.tick order _ (kept.endHold s h)
    · exact kept.endHold s h
  case streamExpiry i => cases run; exact kept.expiry i s h
  case outputPeriodBoundary peaks order =>
    cases run
    split
    · exact kept.boundary peaks order _ (kept.endHold s h)
    · exact kept.endHold s h
  case rampDelayExpiry c => cases run; exact kept.delay c s h
  case faultLatchSet c => cases run; exact kept.latch c s h
  case auditDwellEnd => cases run; exact kept.dwell s h
  case auditComplete => cases run; exact kept.complete s h
  case thermalConditionChange d =>
    cases run
    split
    · exact kept.thermal _ s h
    · exact h
  case powerOn d => cases run; exact kept.startSensor d _ (kept.switched _ _ _ (kept.clearOut s h))
  case powerFail chars =>
    cases run
    exact kept.reset _ (kept.switched _ _ _ (kept.receive _ _ (kept.clearOut s h)))
  case resetnAssert chars =>
    cases run
    exact kept.reset _ (kept.switched _ _ _ (kept.receive _ _ (kept.clearOut s h)))
  case resetnRelease d => cases run; exact kept.startSensor d _ (kept.switched _ _ _ (kept.clearOut s h))
  case initialisationEnd chars inSpace =>
    cases run
    split
    · next both =>
      have runs : blocksRun (Machine.receive chars (Machine.clearOut s)) = true :=
        (keptByFrames_blocksRun true).receive chars _ (Bool.and_eq_true_iff.mp both).1
      exact kept.disengage runs _ (kept.receive _ _ (kept.clearOut s h))
    · exact kept.receive _ _ (kept.clearOut s h)
  all_goals
    cases run
    exact kept.commandRow _ _ _ s h

/-- A step keeps what every row keeps, where the waiting commands do not matter to it. -/
theorem step (pending : ∀ s p, P s → P { s with pending := p }) (s t : State) (h : P s) (run : step s = .next t) : P t := by
  unfold Machine.step at run
  split at run
  · cases run
    exact h
  · exact kept.exec _ _ t (pending s _ h) run

end Kept

/-! ### The waiting commands -/

@[simp] theorem endAudit_pending (result : ResultCode) (s : State) : (endAudit result s).pending = s.pending := by
  unfold endAudit
  cases s.audit.run with
  | none => rfl
  | some run => cases s.command.running <;> rfl

@[simp] theorem abortAudit_pending (s : State) : (abortAudit s).pending = s.pending := by
  unfold abortAudit
  cases s.audit.run with
  | none => rfl
  | some run => exact endAudit_pending _ _

@[simp] theorem closeDwell_pending (s : State) : (closeDwell s).pending = s.pending := by
  unfold closeDwell
  split
  · split
    · split
      · dsimp only
        split <;> simp
      · rfl
    · rfl
  · rfl

@[simp] theorem countPeriod_pending (s : State) : (countPeriod s).pending = s.pending := by
  unfold countPeriod
  split <;> rfl

@[simp] theorem applyLoss_pending (i : StreamId) (s : State) : (applyLoss i s).pending = s.pending := by
  rw [applyLoss_keeps]

@[simp] theorem examineExpiry_pending (i : StreamId) (s : State) : (examineExpiry i s).pending = s.pending := by
  rcases examineExpiry_cases i s with ⟨-, done⟩ | ⟨-, done⟩ <;> simp [done, loseStream]

theorem keptByEffects_pending (p : List Instr) : KeptByEffects fun s => s.pending = p where
  unit _ _ _ h := h
  effect _ _ c s _ h := (effect_pending c s).trans h

/-- The waiting commands are kept by every part of a row. -/
theorem kept_pending (p : List Instr) : Kept fun s => s.pending = p where
  ring _ _ _ h := h
  switch _ _ _ h := h
  counts _ _ _ h := h
  arrival i slots s _ h := by
    unfold arrival
    dsimp only
    split <;> simp [h]
  command seq code params s h := (keptByEffects_pending p).takeCommand seq code params s h
  commit s _ _ h := by simp [h]
  tick order s h := by
    unfold takeTick
    generalize order ++ List.finRange 16 = turn
    have start : (countTicks { s with tickCount := s.tickCount + 1 }).pending = p := by simp [h]
    generalize countTicks { s with tickCount := s.tickCount + 1 } = t at start
    induction turn generalizing t with
    | nil => exact start
    | cons i turn ih => exact ih _ (by simp [start])
  expiry i s h := by simp [h]
  boundary peaks order s h := by
    have drains := (keptByEffects_pending p).drainIfEnded
    cases order with
    | auditFirst => simp [takeBoundary, auditBoundary, dwellEnd, drains, h]
    | rampsFirst => simp [takeBoundary, auditBoundary, dwellEnd, drains, h]
    | drainLast => exact drains _ _ (by simp [h])
  delay _ _ h := h
  latch _ s h := by simp [h]
  dwell s h := (keptByEffects_pending p).dwellEnd s (by simp [h])
  complete s h := by
    unfold completeAudit
    split
    · exact (keptByEffects_pending p).drainIfEnded _ _ (by simp [h])
    · exact h
  thermal new s h := by
    unfold changeThermal
    dsimp only
    split
    · exact (keptByEffects_pending p).drainIfEnded _ _ (by simp [h])
    · simp [h]
  reset s h := h
  sensor _ s h := h

/-- No row stops the node: each is answered with a next state. -/
theorem exec_next (c : Instr) (s : State) : ∃ t, exec c s = .next t := by
  cases c <;> exact ⟨_, rfl⟩

end Sys2Proof.Machine

open Sys2Proof Sys2Proof.Machine

/-- Settles O2: every arm answers a next state, and the waiting commands are kept by every part of a row. -/
theorem everyCommandKeepsQueue : Obligations.EveryCommandKeepsQueue := by
  intro c s
  obtain ⟨t, run⟩ := exec_next c s
  exact ⟨t, run, (kept_pending s.pending).exec c s t rfl run⟩
end

section
/-! PROOF. The commands of the tables, the outputs and the groups (O38 to O41, O43, O44, O50, O52, O54 to O56): each by what
its effect does, with its record added. -/

namespace Sys2Proof.Machine

/-! ### The forming of the output levels (R85) -/

theorem ruledLevel_congr {s t : State} (monitors : t.output.monitors = s.output.monitors)
    (switchOn : t.output.switchOn = s.output.switchOn) (thermal : t.output.thermal = s.output.thermal)
    (ceiling : t.output.ceiling = s.output.ceiling) (active : t.active = s.active) (audit : t.audit = s.audit)
    (ramps : t.ramps = s.ramps) (c : Channel) : ruledLevel t c = ruledLevel s c := by
  unfold ruledLevel
  rw [monitors, switchOn, thermal, ceiling, active, audit, ramps]

theorem ruledLevel_formOutputs (s : State) (c : Channel) : ruledLevel (formOutputs s) c = ruledLevel s c :=
  ruledLevel_congr (by simp) (by simp) (by simp) (by simp) (by simp) (by simp) (by simp) c

/-- Forming the output levels of a state that has the driven and under-test marks of `s` is a moment of the period that runs in
`s` (R85, R87, R88). -/
theorem formedAtOnce_formOutputs {s t : State} (driven : t.output.driven = s.output.driven)
    (tested : t.output.tested = s.output.tested) : FormedAtOnce s (formOutputs t) := by
  intro c
  obtain ⟨level, drive, test⟩ := formOutputs_get t c
  rw [level, drive, test, ruledLevel_formOutputs, outputLevel_eq_ruled, driven, tested]
  exact ⟨rfl, rfl, rfl⟩

/-- Forming the levels writes the levels and the marks alone (R85), and where the marks before are those of `s` it is a moment of
the period that runs in `s`. -/
theorem exists_formed (s t : State) (driven : t.output.driven = s.output.driven) (tested : t.output.tested = s.output.tested) :
    ∃ levels marks tests,
      formOutputs t = { t with output := { t.output with levels := levels, driven := marks, tested := tests } }
        ∧ FormedAtOnce s { t with output := { t.output with levels := levels, driven := marks, tested := tests } } := by
  have frame : formOutputs t = { t with output := { t.output with
      levels := (formOutputs t).output.levels, driven := (formOutputs t).output.driven
      tested := (formOutputs t).output.tested } } := by
    simp only [formOutputs]
  exact ⟨_, _, _, frame, frame ▸ formedAtOnce_formOutputs driven tested⟩

/-- A command that ends by forming the output levels adds its record to the state so formed. -/
theorem exec_ready_formed {c : Cmd} (ok : CmdOk c) {s t : State} {seq : Byte} (ready : Ready s seq) {row : Instr}
    (named : commandOf (codeOf c) seq (paramsOf c) = some row) {data : List Byte}
    (ends : effect c s = (formOutputs t, .done data)) (driven : t.output.driven = s.output.driven)
    (tested : t.output.tested = s.output.tested) :
    ∃ levels marks tests, let t' : State := { t with
        output := { t.output with levels := levels, driven := marks, tested := tests }
        command := withReply t.command (doneRecord seq (codeOf c) data) }
      exec row s = .next t' ∧ FormedAtOnce s t' := by
  obtain ⟨levels, marks, tests, forms, formed⟩ := exists_formed s t driven tested
  exact ⟨levels, marks, tests, exec_ready_done ok ready named (ends.trans (congrArg (·, _) forms)), formed⟩

end Sys2Proof.Machine

open Sys2Proof Sys2Proof.Machine

/-- Settles O50: both effects form the levels after they have set their one field. -/
theorem outputsOnAndSetCeiling : Obligations.OutputsOnAndSetCeiling := by
  intro s seq l ready
  obtain ⟨_, _, _, done_on, formed_on⟩ := exec_ready_formed (c := .outputsOn)
    (t := { s with output := { s.output with switchOn := true } }) trivial ready rfl rfl rfl rfl
  obtain ⟨_, _, _, done_set, formed_set⟩ := exec_ready_formed (c := .setCeiling l)
    (t := { s with output := { s.output with ceiling := l } }) trivial ready rfl rfl rfl rfl
  exact ⟨_, _, done_on, formed_on, rfl, done_set, formed_set, rfl⟩

/-- Settles O52: the cells of the mask are cleared before the levels are formed. -/
theorem clearFaultsClears : Obligations.ClearFaultsClears := by
  intro s seq m ready
  obtain ⟨cleared, cells⟩ : ∃ cleared : Tab 24 Monitor, cleared = Tab.of fun c =>
      if inMask m c then { s.output.monitors.get c with count := 0, latch := none } else s.output.monitors.get c :=
    ⟨_, rfl⟩
  obtain ⟨_, _, _, done, formed⟩ := exec_ready_formed (c := .clearFaults m)
    (t := { s with output := { s.output with monitors := cleared } }) trivial ready rfl (by rw [cells]; rfl) rfl rfl
  exact ⟨_, done, fun c => by rw [cells, Tab.get_of], formed, rfl⟩

/-- Settles O41: neither command looks at anything but the staging unit. -/
theorem copyActiveAndDisarm : Obligations.CopyActiveAndDisarm := by
  intro s seq ready
  have disarm {s' : State} (ends : effectDisarm s = (s', .done [])) := exec_ready_done (c := .disarm) trivial ready rfl ends
  refine ⟨exec_ready_done (c := .copyActive) trivial ready rfl rfl, ?armed, ?unarmed⟩
  case armed =>
    rintro ⟨e, armed⟩
    exact disarm (s' := { s with staging := { s.staging with state := .edited } }) (by simp only [effectDisarm, armed])
  case unarmed =>
    intro unarmed
    refine disarm ?_
    unfold effectDisarm
    split
    · next e armed => exact (unarmed ⟨e, armed⟩).elim
    · rfl

/-- Settles O38: the numbers 0 to 63 in order, of which those of the list are kept. -/
theorem setGroupsReplaces : Obligations.SetGroupsReplaces := by
  intro s seq l ready ok
  have done := exec_ready_done (c := .setGroups l) (s' := (effectSetGroups l s).1) ok ready rfl rfl
  refine ⟨_, done, fun x => ?members, ?ascending⟩
  case members =>
    obtain ⟨-, -, range⟩ := ok
    rw [effectSetGroups, List.mem_filter, List.contains_iff_mem, List.mem_map]
    simp only [List.mem_range]
    refine ⟨fun ⟨_, there⟩ => there, fun there => ⟨⟨x.toNat, ?_, byteOf_eq_self x⟩, there⟩⟩
    have := (range x there).2
    omega
  case ascending =>
    refine List.Pairwise.filter _ (List.pairwise_map.mpr ?_)
    refine List.pairwise_lt_range.imp_of_mem fun {a b} ha hb less => ?_
    have ha := List.mem_range.mp ha
    have hb := List.mem_range.mp hb
    rw [BitVec.lt_def, byteOf_toNat_of_lt (by omega), byteOf_toNat_of_lt (by omega)]
    exact less

/-- The table writes outside ARMED, each with the one table it replaces (R115). -/
theorem stage_unarmed {s : State} (unarmed : ¬ Armed s) (write : TableSet → TableSet) :
    stage write s = ({ s with staging := { staged := write s.staging.staged, state := .edited } }, .done []) := by
  rcases stage_cases write s with ⟨armed, -⟩ | ⟨-, done⟩
  · exact (unarmed armed).elim
  · exact done

theorem stage_armed {s : State} (armed : Armed s) (write : TableSet → TableSet) :
    stage write s = (s, .refused .badState []) := by
  rcases stage_cases write s with ⟨-, done⟩ | ⟨unarmed, -⟩
  · exact done
  · obtain ⟨e, armed⟩ := armed
    exact (unarmed e armed).elim

section

variable (s : State)

theorem effect_writePatch (k : Key) (e : Option PatchEntry) :
    effect (.writePatch k e) s = stage (fun t => { t with patch := t.patch.put k e }) s := rfl
theorem effect_writeChannel (c : Channel) (g : ChannelConfig) :
    effect (.writeChannel c g) s = stage (fun t => { t with config := t.config.put c g }) s := rfl
theorem effect_writeProfile (n : Fin 15) (p : Option Profile) :
    effect (.writeProfile n p) s = stage (fun t => { t with profiles := t.profiles.put n p }) s := rfl
theorem effect_writeCurve (n : Fin 7) (p : Option Curve) :
    effect (.writeCurve n p) s = stage (fun t => { t with curves := t.curves.put n p }) s := rfl
theorem effect_writeScene (n : Fin 8) (x : Option Scene) :
    effect (.writeScene n x) s = stage (fun t => { t with scenes := t.scenes.put n x }) s := rfl

end

/-- Settles O39: each table write is staged, and its table differs in one cell. -/
theorem tableWritesStage : Obligations.TableWritesStage := by
  intro s seq ready unarmed staged next
  refine ⟨fun k e ok => ⟨_, exec_ready_done (c := .writePatch k e) ok ready rfl
      ((effect_writePatch s k e).trans (stage_unarmed unarmed _)), ?_⟩,
    fun c g => ⟨_, exec_ready_done (c := .writeChannel c g) trivial ready rfl
      ((effect_writeChannel s c g).trans (stage_unarmed unarmed _)), ?_⟩,
    fun n p ok => ⟨_, exec_ready_done (c := .writeProfile n p) ok ready rfl
      ((effect_writeProfile s n p).trans (stage_unarmed unarmed _)), ?_⟩,
    fun n p => ⟨_, exec_ready_done (c := .writeCurve n p) trivial ready rfl
      ((effect_writeCurve s n p).trans (stage_unarmed unarmed _)), ?_⟩,
    fun n y ok => ⟨_, exec_ready_done (c := .writeScene n y) ok ready rfl
      ((effect_writeScene s n y).trans (stage_unarmed unarmed _)), ?_⟩⟩
  all_goals exact fun j => Tab.get_put _ _ _ _

/-- Settles O40. -/
theorem armedRefusesTableWrites : Obligations.ArmedRefusesTableWrites := by
  intro s seq ready armed
  exact ⟨fun k e ok => exec_ready_refused (c := .writePatch k e) ok ready rfl
      ((effect_writePatch s k e).trans (stage_armed armed _)),
    fun c g => exec_ready_refused (c := .writeChannel c g) trivial ready rfl
      ((effect_writeChannel s c g).trans (stage_armed armed _)),
    fun n p ok => exec_ready_refused (c := .writeProfile n p) ok ready rfl
      ((effect_writeProfile s n p).trans (stage_armed armed _)),
    fun n p => exec_ready_refused (c := .writeCurve n p) trivial ready rfl
      ((effect_writeCurve s n p).trans (stage_armed armed _)),
    fun n y ok => exec_ready_refused (c := .writeScene n y) ok ready rfl
      ((effect_writeScene s n y).trans (stage_armed armed _))⟩

/-- Settles O43: in ARMED no validation is made; outside it the first failure is what validation finds. -/
theorem armValidates : Obligations.ArmValidates := by
  intro s seq e ready passes armed fields
  have arm (ends : effectArm e s = ({ s with staging := { s.staging with state := .armed e } }, .done [])) :=
    exec_ready_done (c := .arm e) trivial ready rfl ends
  refine ⟨?arms, ?refuses⟩
  case arms =>
    intro may
    refine arm ?_
    unfold effectArm
    split
    · rfl
    · next unarmed =>
      have passes : passes := may.resolve_left fun ⟨e, armed⟩ => unarmed e armed
      simp only [validated, (validate_eq_none_iff_refsDefined _ _ _).mpr passes]
  case refuses =>
    intro unarmed fails
    obtain ⟨v, found⟩ : ∃ v, validate s.staging.staged s.target.overrides s.streams = some v :=
      Option.ne_none_iff_exists'.mp fun passed => fails ((validate_eq_none_iff_refsDefined _ _ _).mp passed)
    have refused (t : State × Ended) : validated s t = (s, .refused .invalidSet (invalidBytes v)) := by
      simp only [validated, found]
    refine ⟨v, found, ?_, fun edited => ?_⟩
    · refine exec_ready_refused (c := .arm e) trivial ready rfl ?_
      show effectArm e s = _
      unfold effectArm
      split
      · next e armed => exact (unarmed ⟨e, armed⟩).elim
      · exact refused _
    · refine exec_ready_refused (c := .commitNow) trivial ready rfl ?_
      show effectCommitNow s = _
      simp only [effectCommitNow, edited, refused]
      rfl

/-- Settles O56: the effect resets every block and the record is the only one in the emptied list; nothing is left to drain. -/
theorem nodeResetResets : Obligations.NodeResetResets := by
  rintro s seq ⟨hears, free⟩
  have done : execute seq codeNodeReset [] s = { (effectNodeReset s).1 with
      command := withReply (effectNodeReset s).1.command (doneRecord seq codeNodeReset []) } :=
    execute_done (c := .nodeReset) rfl rfl
  have drained : ∀ t : State, t.command.queue = [] → drainIfEnded s t = t := by
    intro t empty
    unfold drainIfEnded drain
    rw [drainQueue_empty _ t empty, ite_self]
  rw [show exec (.nodeReset seq []) s = .next (commandRow codeNodeReset seq [] s) from rfl,
    commandRow_heard hears (by simp), takeCommand, isHeld_of_free free, if_neg Bool.false_ne_true, if_pos (by decide : isUrgent codeNodeReset = true),
    done, drained _ rfl]
  rfl

/-- Settles O55: nothing stands before its execution, and its layout is read from the state before. -/
theorem nodeStatusReadAtOnce : Obligations.NodeStatusReadAtOnce := by
  rintro s seq ⟨hears, free⟩ few g
  have groups : (List.range 4).map (fun i => g.getD i 0) = g ++ List.replicate (4 - g.length) 0 := by
    match h : g with
    | [] | [_] | [_, _] | [_, _, _] | [_, _, _, _] => rfl
    | _ :: _ :: _ :: _ :: _ :: _ => exact absurd few (by rw [show s.command.groups = _ from h]; simp)
  have staging : stagingCode s.staging.state :: wordBytes (stagingEpoch s.staging.state)
      = match s.staging.state with | .clean => [0, 0, 0] | .edited => [1, 0, 0] | .armed e => 2 :: wordBytes e := by
    cases s.staging.state <;> rfl
  have layout : readNodeStatus s = [s.ring.address, byteOf g.length] ++ g ++ List.replicate (4 - g.length) 0
      ++ (match s.staging.state with | .clean => [0, 0, 0] | .edited => [1, 0, 0] | .armed e => 2 :: wordBytes e)
      ++ [if s.output.switchOn = true then 1 else 0, (match s.output.thermal with | .cool => 0 | .warm => 1 | .hot => 2),
          (match s.audit.run with | none => 0 | some _ => 1),
          (match s.audit.run.bind AuditRun.under with | none => 0xFF | some c => byteOf c),
          byteOf s.command.queue.length, byteOf s.command.replies.length]
      ++ wordBytes s.output.ceiling := by
    have running : flagCode s.audit.run.isSome = match s.audit.run with | none => 0 | some _ => 1 := by
      cases s.audit.run <;> rfl
    have tested : (match underTest s.audit with | some c => byteOf c | none => 0xFF)
        = match s.audit.run.bind AuditRun.under with | none => (0xFF : Byte) | some c => byteOf c := by
      unfold underTest
      cases s.audit.run.bind AuditRun.under <;> rfl
    have thermal : thermalCode s.output.thermal = match s.output.thermal with | .cool => 0 | .warm => 1 | .hot => 2 := by
      cases s.output.thermal <;> rfl
    rw [← staging, ← running, ← tested, ← thermal, List.append_assoc [_, _] g, ← groups]
    simp only [readNodeStatus, flagCode, List.append_assoc, List.cons_append, List.nil_append]
    rfl
  rw [show exec (.read seq [8, 0, 0, 0]) s = .next (commandRow codeRead seq [8, 0, 0, 0] s) from rfl,
    commandRow_heard hears (by simp), takeCommand, isHeld_of_free free, if_neg Bool.false_ne_true,
    if_neg (by decide : ¬ isUrgent codeRead = true), if_pos (by decide : isNodeStatusRead codeRead [8, 0, 0, 0] = true),
    execute_done (c := .read .nodeStatus) (s' := s) (data := readNodeStatus s) rfl rfl, layout]
  rfl
end

section
/-! PROOF. The arithmetic of the level path: targets by precedence and what is read of a channel (O58), and the drive of a
channel within its period (O60). -/

namespace Sys2Proof.Machine

/-! ### What is read of a channel -/

theorem exists_position {p : Position → Prop} : (∃ q, p q) ↔ p .a ∨ p .b :=
  ⟨fun ⟨q, h⟩ => by cases q with | a => exact .inl h | b => exact .inr h, fun h => h.elim (⟨_, ·⟩) (⟨_, ·⟩)⟩

/-- Usability is the one of R20. -/
theorem usable_iff (s : State) (c : Channel) (q : Position) : usable s c q = true ↔ Usable s c q := by
  unfold usable Usable contributionAt entryAt
  cases entry : s.active.patch.get (keyOf c q) with
  | none => simp
  | some e => cases state : (s.streams.get e.stream).state <;> simp [state]

theorem usableValue_of_usable {s : State} {c : Channel} {q : Position} (h : Usable s c q) :
    usableValue s c q = some (curvedAt s c q) := by
  rw [usableValue, if_pos ((usable_iff s c q).mpr h)]
  rfl

theorem usableValue_of_not_usable {s : State} {c : Channel} {q : Position} (h : ¬ Usable s c q) :
    usableValue s c q = none := by
  rw [usableValue, if_neg (mt (usable_iff s c q).mp h)]

theorem presentFrom_iff (s : State) (i : StreamId) (c : Channel) (q : Position) :
    presentFrom s i c q = true ↔ ∃ e, s.active.patch.get (keyOf c q) = some e ∧ e.stream = i
      ∧ (s.patch.contributions.get (keyOf c q)).present = true := by
  unfold presentFrom entryAt contributionAt
  cases s.active.patch.get (keyOf c q) <;> simp

theorem hasPresent_iff (s : State) (i : StreamId) (c : Channel) :
    hasPresent s i c = true ↔ ∃ q e, s.active.patch.get (keyOf c q) = some e ∧ e.stream = i
      ∧ (s.patch.contributions.get (keyOf c q)).present = true := by
  rw [hasPresent, Bool.or_eq_true, presentFrom_iff, presentFrom_iff, exists_position]

theorem patchedTo_iff (t : TableSet) (c : Channel) (i : StreamId) :
    patchedTo t c i = true ↔ ∃ q e, t.patch.get (keyOf c q) = some e ∧ e.stream = i := by
  rw [exists_position]
  unfold patchedTo
  cases t.patch.get (keyOf c .a) <;> cases t.patch.get (keyOf c .b) <;> simp

theorem sceneLevel_eq_bind (t : TableSet) (n : Fin 8) (c : Channel) :
    sceneLevel t n c = (t.scenes.get n).bind fun x => x.get c := by
  unfold sceneLevel
  cases t.scenes.get n <;> rfl

theorem heldByLoss_iff (s : State) (i : StreamId) (c : Channel) :
    heldByLoss s i c = true ↔ ∃ o, s.target.overrides.get c = some o ∧ o.origin = .loss i := by
  unfold heldByLoss
  cases s.target.overrides.get c <;> simp

/-! ### The target of a channel (R22) -/

theorem targetOf_override {s : State} {c : Channel} {o : Override} (held : s.target.overrides.get c = some o) :
    targetOf s c = o.level := by
  simp only [targetOf, held]

theorem targetOf_merge {s : State} {c : Channel} (free : s.target.overrides.get c = none) :
    targetOf s c = (mergeResult s c).getD (s.active.config.get c).rest := by
  simp only [targetOf, free]

/-- The merge result, from the usable values of the two positions (R21). -/
theorem mergeResult_eq (s : State) (c : Channel) (a b : Option Level) (at_a : usableValue s c .a = a)
    (at_b : usableValue s c .b = b) : mergeResult s c =
      match a, b with
      | none, none => none
      | some x, none => some x
      | none, some y => some y
      | some x, some y => some (match (s.active.config.get c).mergeRule with
        | .highest => if x ≤ y then y else x
        | .latest => (match s.patch.lastUpdated.get c with | .a => x | .b => y)
        | .aFirst => x) := by
  simp only [mergeResult, at_a, at_b]
  cases (s.active.config.get c).mergeRule <;> cases s.patch.lastUpdated.get c <;> cases a <;> cases b <;> rfl

/-! ### The profile in effect (R24) -/

theorem profileInEffect_command {s : State} {c : Channel} {o : Override} {p : Fin 16}
    (held : s.target.overrides.get c = some o) (command : o.origin = .command) (given : o.profile = some p) :
    profileInEffect s c = p := by
  obtain ⟨origin, level, profile⟩ := o
  subst command given
  simp only [profileInEffect, held]

theorem profileInEffect_configured {s : State} {c : Channel}
    (other : ∀ o, s.target.overrides.get c = some o → o.origin ≠ .command ∨ o.profile = none) :
    profileInEffect s c = (s.active.config.get c).profile := by
  unfold profileInEffect
  split
  · next level p held => simpa using other _ held
  · rfl

theorem profileOf_succ (t : TableSet) (n : Fin 15) : profileOf t n.succ = t.profiles.get n := rfl

/-! ### The drive within a period (R86) -/

/-- The place of an instant in a circle of `n` instants, counted from `offset` on, and back. -/
theorem circle_place {n offset t : Nat} (offset_le : offset ≤ n) (inside : t < n) :
    (offset + (t + n - offset) % n) % n = t ∧ ((offset + t) % n + n - offset) % n = t := by
  have positive : 0 < n := by omega
  constructor
  · rw [Nat.add_mod_mod, show offset + (t + n - offset) = t + n by omega, Nat.add_mod_right, Nat.mod_eq_of_lt inside]
  · by_cases wraps : offset + t < n
    · rw [Nat.mod_eq_of_lt wraps, show offset + t + n - offset = t + n by omega, Nat.add_mod_right, Nat.mod_eq_of_lt inside]
    · have once : (offset + t) % n = offset + t - n := by
        rw [Nat.mod_eq_sub_mod (by omega), Nat.mod_eq_of_lt (by omega)]
      rw [once, show offset + t - n + n - offset = t by omega, Nat.mod_eq_of_lt inside]

theorem length_filter_range (n : Nat) (p : Nat → Bool) :
    ((List.range n).filter p).length = ((Finset.range n).filter fun t => p t = true).card := by
  rw [← List.toFinset_card_of_nodup (List.nodup_range.filter p)]
  congr 1
  ext t
  simp

/-- As many instants of a circle lie in an arc as the arc is long, wherever it begins. -/
theorem arc_length {n offset arc : Nat} (offset_le : offset ≤ n) (arc_le : arc ≤ n) :
    ((List.range n).filter fun t => decide ((t + n - offset) % n < arc)).length = arc := by
  rw [length_filter_range]
  conv_rhs => rw [← Finset.card_range arc]
  refine Finset.card_nbij' (fun t => (t + n - offset) % n) (fun m => (offset + m) % n) ?_ ?_ ?_ ?_
  · intro t ht
    simpa using (Finset.mem_filter.mp ht).2
  · intro m hm
    have inside : m < n := lt_of_lt_of_le (Finset.mem_range.mp hm) arc_le
    have place := (circle_place offset_le inside).2
    simp only [Finset.coe_filter, Finset.mem_range, Set.mem_ofPred_eq, decide_eq_true_eq, place]
    exact ⟨Nat.mod_lt _ (by omega), Finset.mem_range.mp hm⟩
  · intro t ht
    exact (circle_place offset_le (Finset.mem_range.mp (Finset.mem_filter.mp ht).1)).1
  · intro m hm
    exact (circle_place offset_le (lt_of_lt_of_le (Finset.mem_range.mp hm) arc_le)).2

theorem driveHigh_running {s : State} (running : blocksRun s = true) (c : Channel) (t : Nat) :
    driveHigh s c t
      = decide ((t + 262140 - (s.output.phases.get c).val * 65535) % 262140 < 4 * (s.output.levels.get c).toNat) := by
  rw [driveHigh, running, Bool.true_and]

end Sys2Proof.Machine

open Sys2Proof Sys2Proof.Machine

/-- Settles O58: the override, then the merge of what is usable, then the rest level; then what is read of a channel. -/
theorem targetByPrecedence : Obligations.TargetByPrecedence := by
  intro s c a b va vb g
  refine ⟨fun o held => targetOf_override held, fun free => ?merge, fun o p held command given =>
    profileInEffect_command held command given, profileInEffect_configured, fun p defined => by rw [profileFor, defined]; rfl,
    fun t => ⟨rfl, profileOf_succ t⟩, ⟨Nat.mul_comm _ _, by rw [Nat.mul_comm]; rfl⟩, fun i => hasPresent_iff s i c,
    fun t i => patchedTo_iff t c i, fun t n => sceneLevel_eq_bind t n c, fun i => heldByLoss_iff s i c⟩
  case merge =>
    rw [targetOf_merge free]
    refine ⟨fun no_a no_b => ?_, fun yes_a no_b => ?_, fun no_a yes_b => ?_, fun yes_a yes_b => ?_⟩
    · rw [mergeResult_eq s c _ _ (usableValue_of_not_usable no_a) (usableValue_of_not_usable no_b)]
      rfl
    · rw [mergeResult_eq s c _ _ (usableValue_of_usable yes_a) (usableValue_of_not_usable no_b)]
      rfl
    · rw [mergeResult_eq s c _ _ (usableValue_of_not_usable no_a) (usableValue_of_usable yes_b)]
      rfl
    · rw [mergeResult_eq s c _ _ (usableValue_of_usable yes_a) (usableValue_of_usable yes_b)]
      rfl

/-- Settles O60: the high instants are an arc of the circle of a period. -/
theorem driveFollowsDutyAndPhase : Obligations.DriveFollowsDutyAndPhase := by
  intro s c running level offset
  have quarter : offset ≤ 262140 := by
    have := (s.output.phases.get c).isLt
    omega
  have duty : 4 * level ≤ 262140 := by
    have := (s.output.levels.get c).isLt
    omega
  refine ⟨?_, fun n inside => ?_⟩
  · rw [show driveHigh s c = fun t => decide ((t + 262140 - offset) % 262140 < 4 * level) from
      funext (driveHigh_running running c)]
    exact arc_length quarter duty
  · rw [driveHigh_running running, decide_eq_true_eq, (circle_place quarter inside).2]
end

section
/-! PROOF. Recomputation and the ramp engine's part in it (R36, R45 to R47), and the commit (O44). -/

namespace Sys2Proof.Machine

/-! ### Recomputation -/

/-- A target change is taken as R45 to R47 have it. -/
theorem targetTaken_targetChange (delay : Nat) (goal : Level) (r : Ramp) :
    TargetTaken delay goal r (targetChange delay goal r) := by
  obtain ⟨level, state, count⟩ := r
  unfold TargetTaken targetChange
  cases state with
  | steady => by_cases none : delay = 0 <;> simp [none, Nat.pos_iff_ne_zero]
  | waiting => by_cases back : goal = level <;> simp [back]
  | moving => by_cases back : goal = level <;> simp [back]

/-- Recomputation is read from the targets, the ramps and what a target is formed from. -/
theorem Recomputed.congr {chosen : Channel → Prop} {s t t' : State} (h : Recomputed chosen s t) (target : t'.target = t.target)
    (ramps : t'.ramps = t.ramps) (streams : t'.streams = t.streams) (patch : t'.patch = t.patch)
    (active : t'.active = t.active) : Recomputed chosen s t' := by
  have overrides : t'.target.overrides = t.target.overrides := by rw [target]
  intro c
  rw [target, ramps, targetOf_congr overrides streams patch active, profileFor_congr overrides active]
  exact h c

theorem Recomputed.of_iff {chosen chosen' : Channel → Prop} {s t : State} (h : Recomputed chosen s t)
    (same : ∀ c, chosen c ↔ chosen' c) : Recomputed chosen' s t := by
  have same : chosen = chosen' := funext fun c => propext (same c)
  rwa [← same]

/-- Nothing is recomputed where no channel is chosen and nothing has changed. -/
theorem Recomputed.none {chosen : Channel → Prop} {s t : State} (never : ∀ c, ¬ chosen c)
    (targets : t.target.targets = s.target.targets) (ramps : t.ramps = s.ramps) : Recomputed chosen s t := by
  intro c
  rw [targets, ramps]
  exact ⟨fun h => (never c h).elim, fun _ => rfl, fun _ => rfl, fun h => (h rfl).elim⟩

/-- A recomputation writes the targets and the ramps alone, each change handed to the ramp engine once (R36). -/
theorem exists_recomputed (p : Channel → Bool) (s u : State) (targets : u.target.targets = s.target.targets)
    (ramps : u.ramps = s.ramps) :
    ∃ targets ramps, recompute p u = { u with target := { u.target with targets := targets }, ramps := ramps }
      ∧ Recomputed (fun c => p c = true) s { u with target := { u.target with targets := targets }, ramps := ramps } := by
  have frame : recompute p u = { u with
      target := { u.target with targets := (recompute p u).target.targets }, ramps := (recompute p u).ramps } := by
    simp only [recompute]
  refine ⟨_, _, frame, frame ▸ fun c => ?_⟩
  have goal : targetOf (recompute p u) c = targetOf u c :=
    targetOf_congr (by simp) (by simp) (by simp) (by simp) c
  have profile : profileFor (recompute p u) c = profileFor u c := profileFor_congr (by simp) (by simp) c
  rw [goal, profile, recompute_target_get, recompute_ramp_get, targets, ramps]
  by_cases chosen : p c = true
  · rw [if_pos chosen]
    refine ⟨fun _ => rfl, fun not => (not chosen).elim, fun same => if_neg fun h => h.2 same, fun changed => ?_⟩
    rw [if_pos ⟨chosen, changed⟩]
    exact targetTaken_targetChange _ _ _
  · rw [if_neg chosen]
    exact ⟨fun h => (chosen h).elim, fun _ => rfl, fun _ => if_neg fun h => chosen h.1, fun changed => (changed rfl).elim⟩

/-! ### Commit -/

/-- A commit, whatever the ring interface and the command unit hold after it (R128). -/
theorem exists_committed (s : State) :
    ∃ contributions targets ramps levels marks tests, let t : State := { s with
        active := s.staging.staged
        staging := { s.staging with state := .clean }
        patch := { s.patch with contributions := contributions }
        target := { s.target with targets := targets }
        ramps := ramps
        output := { s.output with levels := levels, driven := marks, tested := tests } }
      commit s = t ∧ ∀ r u, Committed s { t with ring := r, command := u } := by
  obtain ⟨contributions, cells⟩ : ∃ x : Tab 48 Contribution, x = Tab.of fun k =>
    carriedContribution s.active s.staging.staged k (s.patch.contributions.get k) := ⟨_, rfl⟩
  obtain ⟨targets, ramps, recomputes, recomputed⟩ := exists_recomputed (fun _ => true) s
    { s with
      active := s.staging.staged
      staging := { s.staging with state := .clean }
      patch := { s.patch with contributions := contributions } } rfl rfl
  obtain ⟨levels, marks, tests, forms, formed⟩ := exists_formed s
    { s with
      active := s.staging.staged
      staging := { s.staging with state := .clean }
      patch := { s.patch with contributions := contributions }
      target := { s.target with targets := targets }
      ramps := ramps } rfl rfl
  refine ⟨contributions, targets, ramps, levels, marks, tests, ?_, fun r u => ?_⟩
  · rw [commit, ← cells, recomputes, forms]
  · refine ⟨rfl, rfl, rfl, fun k => ?_, rfl, rfl, ?_, formed, rfl, rfl⟩
    · rw [cells, Tab.get_of, carriedContribution_eq]
    · exact (recomputed.congr rfl rfl rfl rfl rfl).of_iff fun c => by simp

end Sys2Proof.Machine

open Sys2Proof Sys2Proof.Machine

/-- Settles O44: COMMIT NOW is the commit of the machine where the staging state and validation let it. -/
theorem commitNowCommits : Obligations.CommitNowCommits := by
  intro s seq ready
  refine ⟨fun may => ?commits, fun clean => ?nothing⟩
  case commits =>
    obtain ⟨_, _, _, _, _, _, commits, committed⟩ := exists_committed s
    have ends : effect .commitNow s = (commit s, .done []) := by
      rcases may with ⟨e, armed⟩ | ⟨edited, passes⟩
      · simp only [effect, effectCommitNow, armed]
      · simp only [effect, effectCommitNow, edited, validated, (validate_eq_none_iff_refsDefined _ _ _).mpr passes]
    rw [commits] at ends
    exact ⟨_, exec_ready_done (c := .commitNow) trivial ready rfl ends, committed _ _, rfl, rfl⟩
  case nothing =>
    exact exec_ready_done (c := .commitNow) trivial ready rfl (by simp only [effect, effectCommitNow, clean])
end

section
/-! PROOF. Overrides and the loss of streams (O23, O45 to O49). -/

namespace Sys2Proof.Machine

/-! ### What the loss rules read of a state -/

theorem hasPresent_congr {s t : State} (patch : t.patch = s.patch) (active : t.active = s.active) (i : StreamId) :
    hasPresent t i = hasPresent s i := by
  funext c
  simp only [hasPresent, presentFrom, entryAt, contributionAt, patch, active]

theorem heldByLoss_congr {s t : State} (overrides : t.target.overrides = s.target.overrides) (i : StreamId) :
    heldByLoss t i = heldByLoss s i := by
  funext c
  simp only [heldByLoss, overrides]

theorem lossApplied_congr {s t : State} (active : t.active = s.active) : lossApplied t = lossApplied s := by
  funext i p o c
  simp only [lossApplied, active]

theorem lossApplied_some (s : State) (i : StreamId) (p : LossPolicy) (o : Override) (c : Channel) :
    lossApplied s i p (some o) c = some o := rfl

theorem lossApplied_hold (s : State) (i : StreamId) (o : Option Override) (c : Channel) : lossApplied s i .hold o c = o := by
  cases o <;> rfl

theorem lossApplied_release (s : State) (i : StreamId) (o : Option Override) (c : Channel) :
    lossApplied s i .release o c = o := by
  cases o <;> rfl

theorem applyLossScene_overrides (i : StreamId) (n : Fin 8) (s : State) (c : Channel) :
    (applyLossScene i n s).target.overrides.get c = lossApplied s i (.scene n) (s.target.overrides.get c) c := by
  rw [applyLossScene_get]
  cases s.target.overrides.get c <;> rfl

theorem lossLevel_eq_some_iff (s : State) (c : Channel) (i : StreamId) (l : Level) :
    lossLevel s c i = some l ↔ (s.streams.get i).state = .lost ∧ ∃ n, (s.streams.get i).policy = .scene n
      ∧ patchedTo s.active c i = true ∧ sceneLevel s.active n c = some l := by
  unfold lossLevel
  split
  · next n lost policy => by_cases patched : patchedTo s.active c i = true <;> simp [lost, policy, patched]
  · next other =>
    refine ⟨nofun, ?_⟩
    rintro ⟨lost, n, policy, -⟩
    exact (other n lost policy).elim

theorem lossLevel_eq_none {s : State} {c : Channel} {i : StreamId} (free : lossLevel s c i = none) (n : Fin 8)
    (lost : (s.streams.get i).state = .lost) (policy : (s.streams.get i).policy = .scene n)
    (patched : patchedTo s.active c i = true) : sceneLevel s.active n c = none := by
  rw [Option.eq_none_iff_forall_ne_some]
  intro l named
  rw [(lossLevel_eq_some_iff s c i l).mpr ⟨lost, n, policy, patched, named⟩] at free
  cases free

/-- Loss re-examination finds the lowest-numbered stream that qualifies (R31). -/
theorem lossOverride_eq_some {s : State} {c : Channel} {o : Override} (found : lossOverride s c = some o) :
    ∃ i n, o.origin = .loss i ∧ o.profile = none ∧ (s.streams.get i).state = .lost
      ∧ (s.streams.get i).policy = .scene n ∧ patchedTo s.active c i = true ∧ sceneLevel s.active n c = some o.level
      ∧ ∀ j < i, lossLevel s c j = none := by
  rw [lossOverride, ← Fin.findSome?_eq_findSome?_finRange, Fin.findSome?_eq_some_iff] at found
  obtain ⟨i, held, below⟩ := found
  obtain ⟨l, level, rfl⟩ := Option.map_eq_some_iff.mp held
  obtain ⟨lost, n, policy, patched, named⟩ := (lossLevel_eq_some_iff s c i l).mp level
  exact ⟨i, n, rfl, rfl, lost, policy, patched, named, fun j hj => Option.map_eq_none_iff.mp (below j hj)⟩

theorem lossOverride_eq_none {s : State} {c : Channel} (found : lossOverride s c = none) (j : StreamId) :
    lossLevel s c j = none := by
  rw [lossOverride, ← Fin.findSome?_eq_findSome?_finRange, Fin.findSome?_eq_none_iff] at found
  exact Option.map_eq_none_iff.mp (found j)

/-- Overrides removed and their channels re-examined (R28, R31). -/
theorem reexamine_removed_get {p : Channel → Bool} {s : State} (c : Channel) :
    (reexamine p (removeOverrides p s)).target.overrides.get c
      = if p c = true then lossOverride s c else s.target.overrides.get c := by
  have same : lossOverride (removeOverrides p s) c = lossOverride s c := lossOverride_congr (by simp) (by simp) c
  rw [reexamine_get, removeOverrides_get, same]
  by_cases chosen : p c = true
  · simp only [if_pos chosen]
  · simp only [if_neg chosen]
    cases s.target.overrides.get c <;> rfl

/-- The channels a RELEASE acts on: those of its mask that have an override (R28). -/
def releasable (m : Mask) (s : State) (c : Channel) : Bool := inMask m c && (s.target.overrides.get c).isSome

theorem effect_release (m : Mask) (s : State) :
    effect (.release m) s =
      (recompute (releasable m s) (reexamine (releasable m s) (removeOverrides (releasable m s) s)),
        .done [byteOf (countChannels (releasable m s)), byteOf (countChannels fun c => releasable m s c
          && ((reexamine (releasable m s) (removeOverrides (releasable m s) s)).target.overrides.get c).isSome)]) := by
  have chosen : releasable m s = fun c => inMask m c && (s.target.overrides.get c).isSome := rfl
  rw [chosen]
  dsimp only [effect, effectRelease]

/-! ### The loss of a stream (R29, R30, R66) -/

/-- Recomputation reads the targets and the ramps alone of the state before. -/
theorem Recomputed.of_before {chosen : Channel → Prop} {s s' t : State} (h : Recomputed chosen s t)
    (targets : s'.target.targets = s.target.targets) (ramps : s'.ramps = s.ramps) : Recomputed chosen s' t := by
  intro c
  rw [targets, ramps]
  exact h c

/-- The effects of a loss: the LOSS overrides of its scene, and the recomputation of its channels (R29, R30). -/
theorem exists_applyLoss (i : StreamId) (s : State) :
    ∃ overrides targets ramps,
      let t : State := { s with target := { overrides := overrides, targets := targets }, ramps := ramps }
      applyLoss i s = t
        ∧ (∀ c, overrides.get c = lossApplied s i (s.streams.get i).policy (s.target.overrides.get c) c)
        ∧ Recomputed (fun c => (s.streams.get i).policy ≠ .hold ∧ (hasPresent s i c = true
            ∨ overrides.get c ≠ s.target.overrides.get c)) s t := by
  obtain ⟨hold, release, scene⟩ := applyLoss_cases i s
  cases policy : (s.streams.get i).policy with
  | hold =>
    exact ⟨s.target.overrides, s.target.targets, s.ramps, hold policy, fun c => by rw [lossApplied_hold],
      Recomputed.none (by simp) rfl rfl⟩
  | release =>
    obtain ⟨targets, ramps, recomputes, recomputed⟩ := exists_recomputed (hasPresent s i) s s rfl rfl
    exact ⟨s.target.overrides, targets, ramps, (release policy).trans recomputes, fun c => by rw [lossApplied_release],
      recomputed.of_iff fun c => by simp⟩
  | scene n =>
    obtain ⟨overrides, cells⟩ : ∃ x : Tab 24 (Option Override), x = (applyLossScene i n s).target.overrides := ⟨_, rfl⟩
    have applied : applyLossScene i n s = { s with target := { s.target with overrides := overrides } } := by
      rw [cells]
      simp only [applyLossScene]
    obtain ⟨targets, ramps, recomputes, recomputed⟩ := exists_recomputed
      (fun c => hasPresent s i c || overrideDiffers s { s with target := { s.target with overrides := overrides } } c) s
      { s with target := { s.target with overrides := overrides } } rfl rfl
    have same := scene n policy
    rw [applied, recomputes] at same
    refine ⟨overrides, targets, ramps, same, fun c => by rw [cells, applyLossScene_overrides],
      recomputed.of_iff fun c => ?_⟩
    simp only [overrideDiffers, Bool.or_eq_true, bne_iff_ne, ne_comm (a := s.target.overrides.get c)]
    simp

/-- The loss of a stream: its record LOST with count and measured period kept, and the effects of its policy (R66, R72). -/
theorem exists_lost (i : StreamId) (s : State) :
    ∃ overrides targets ramps,
      let r := s.streams.get i
      let t : State := { s with
        streams := s.streams.put i { r with state := .lost }
        target := { overrides := overrides, targets := targets }
        ramps := ramps }
      loseStream i s = t
        ∧ (∀ c, overrides.get c = lossApplied s i r.policy (s.target.overrides.get c) c)
        ∧ Recomputed (fun c => r.policy ≠ .hold ∧ (hasPresent s i c = true
            ∨ overrides.get c ≠ s.target.overrides.get c)) s t := by
  obtain ⟨overrides, targets, ramps, applies, cells, recomputed⟩ :=
    exists_applyLoss i { s with streams := s.streams.put i { s.streams.get i with state := .lost } }
  rw [Tab.get_put_same] at cells recomputed
  rw [lossApplied_congr (s := s) (by rfl)] at cells
  rw [hasPresent_congr (s := s) (by rfl) (by rfl)] at recomputed
  exact ⟨overrides, targets, ramps, applies, cells, recomputed.of_before rfl rfl⟩

/-- The examination of a stream writes the streams, the target unit and the ramps alone. -/
theorem exists_examined (i : StreamId) (s : State) :
    ∃ overrides targets ramps,
      examineExpiry i s = { s with
          streams := if expiryDue (s.streams.get i) = true then s.streams.put i { s.streams.get i with state := .lost }
            else s.streams
          target := { overrides := overrides, targets := targets }
          ramps := ramps }
        ∧ (∀ c, overrides.get c = if expiryDue (s.streams.get i) = true then
            lossApplied s i (s.streams.get i).policy (s.target.overrides.get c) c else s.target.overrides.get c)
        ∧ (expiryDue (s.streams.get i) = false ∨ (s.streams.get i).policy = .hold →
            targets = s.target.targets ∧ ramps = s.ramps) := by
  rcases examineExpiry_cases i s with ⟨due, done⟩ | ⟨due, done⟩
  · obtain ⟨overrides, targets, ramps, loses, cells, recomputed⟩ := exists_lost i s
    refine ⟨overrides, targets, ramps, ?_, fun c => by rw [if_pos due, cells], fun quiet => ?_⟩
    · rw [done, loses, if_pos due]
    · have hold := quiet.resolve_left (by rw [due]; simp)
      have kept : targets = s.target.targets :=
        Tab.ext_get fun c => (recomputed c).2.1 fun chosen => chosen.1 hold
      exact ⟨kept, Tab.ext_get fun c => (recomputed c).2.2.1 (by rw [kept])⟩
  · refine ⟨s.target.overrides, s.target.targets, s.ramps, ?_, fun c => by simp [due], fun _ => ⟨rfl, rfl⟩⟩
    rw [done, if_neg (by rw [due]; simp)]

theorem examineExpiry_streams (i j : StreamId) (s : State) :
    (examineExpiry i s).streams.get j =
      if j = i ∧ expiryDue (s.streams.get i) = true then { s.streams.get i with state := .lost } else s.streams.get j := by
  obtain ⟨_, _, _, frame, -, -⟩ := exists_examined i s
  rw [frame]
  by_cases due : expiryDue (s.streams.get i) = true <;> simp [due, Tab.get_put]

/-! ### SET STREAM (R68 to R73) -/

theorem policyNamed_iff (s : State) (q : LossPolicy) :
    policyNamed s q = true ↔ ∀ n, q = .scene n → DefinedWhereNeeded s fun t => t.scenes.get n ≠ none := by
  cases q with
  | scene n =>
    simp only [policyNamed, definedInBoth, DefinedWhereNeeded, Armed, Option.isSome_iff_ne_none, Bool.and_eq_true,
      LossPolicy.scene.injEq, forall_eq']
    cases s.staging.state <;> simp [Option.isSome_iff_ne_none]
  | hold | release => simp [policyNamed]

/-- The loss overrides of a stream removed and their channels re-examined (R32 to R34). -/
theorem exists_reversed (i : StreamId) (s : State) :
    ∃ overrides, reverseLoss i s = { s with target := { s.target with overrides := overrides } }
      ∧ ∀ c, overrides.get c = if heldByLoss s i c = true then lossOverride s c else s.target.overrides.get c := by
  refine ⟨(reverseLoss i s).target.overrides, ?_, reverseLoss_get i s⟩
  simp only [reverseLoss, reexamine, removeOverrides]

/-- A disable: the record DISABLED, its contributions absent, its LOSS overrides reversed (R12, R33, R70). -/
theorem exists_disabled (i : StreamId) (r : StreamRecord) (s : State) :
    ∃ contributions overrides targets ramps,
      let t : State := { s with
        streams := s.streams.put i { r with state := .disabled, measured := 0, ticks := 0 }
        patch := { s.patch with contributions := contributions }
        target := { overrides := overrides, targets := targets }
        ramps := ramps }
      disableStream i r s = t
        ∧ (∀ k, contributions.get k = if (s.active.patch.get k).map PatchEntry.stream = some i then .absent
            else s.patch.contributions.get k)
        ∧ (∀ c, overrides.get c = if heldByLoss s i c = true then lossOverride t c else s.target.overrides.get c)
        ∧ Recomputed (fun c => contributions.get (keyOf c .a) ≠ s.patch.contributions.get (keyOf c .a)
            ∨ contributions.get (keyOf c .b) ≠ s.patch.contributions.get (keyOf c .b) ∨ heldByLoss s i c = true) s t := by
  obtain ⟨streams, record⟩ : ∃ x : Tab 16 StreamRecord,
    x = s.streams.put i { r with state := .disabled, measured := 0, ticks := 0 } := ⟨_, rfl⟩
  obtain ⟨contributions, cells⟩ : ∃ x : Tab 48 Contribution,
    x = (dropValues i { s with streams := streams }).patch.contributions := ⟨_, rfl⟩
  have dropped : dropValues i { s with streams := streams }
      = { s with streams := streams, patch := { s.patch with contributions := contributions } } := by
    rw [cells]
    simp only [dropValues]
  obtain ⟨overrides, reverses, held⟩ := exists_reversed i
    { s with streams := streams, patch := { s.patch with contributions := contributions } }
  rw [heldByLoss_congr (s := s) (by rfl)] at held
  obtain ⟨targets, ramps, recomputes, recomputed⟩ := exists_recomputed
    (fun c => handedOn s.patch { s.patch with contributions := contributions } c || heldByLoss s i c) s
    { s with
      streams := streams, patch := { s.patch with contributions := contributions }
      target := { s.target with overrides := overrides } } rfl rfl
  have step : disableStream i r s = recompute (fun c => handedOn s.patch (dropValues i { s with streams := streams }).patch c
      || heldByLoss (dropValues i { s with streams := streams }) i c)
      (reverseLoss i (dropValues i { s with streams := streams })) := by
    rw [record]
    rfl
  rw [dropped, heldByLoss_congr (s := s) (by rfl), reverses, recomputes] at step
  refine ⟨contributions, overrides, targets, ramps, ?_, fun k => ?_, fun c => ?_, ?_⟩
  · rw [step, record]
  · rw [cells, dropValues_contribution]
    dsimp only
    cases s.active.patch.get k with
    | none => simp
    | some e => simp
  · rw [held c, ← record]
    rw [lossOverride_congr (t := { s with
      streams := streams, patch := { s.patch with contributions := contributions }
      target := { overrides := overrides, targets := targets }, ramps := ramps })
      (s := { s with streams := streams, patch := { s.patch with contributions := contributions } }) rfl rfl]
  · rw [← record]
    refine recomputed.of_iff fun c => ?_
    simp [handedOn, ne_comm (a := s.patch.contributions.get _), or_assoc]

/-- The scene of a stream's policy applied, where it has one (R34). -/
def applyPolicyScene (i : StreamId) (p : LossPolicy) (s : State) : State :=
  match p with
  | .scene n => applyLossScene i n s
  | _ => s

theorem changeLostPolicy_of_ne {i : StreamId} {old : LossPolicy} {s : State} (differ : (s.streams.get i).policy ≠ old) :
    let t := applyPolicyScene i (s.streams.get i).policy (reverseLoss i s)
    changeLostPolicy i old s = recompute (fun c => heldByLoss s i c || overrideDiffers s t c
      || (((old == .hold) != ((s.streams.get i).policy == .hold)) && hasPresent s i c)) t := by
  unfold changeLostPolicy
  dsimp only
  rw [if_neg differ]
  unfold applyPolicyScene
  cases (s.streams.get i).policy <;> rfl

/-- A new policy on a LOST stream: its LOSS overrides reversed, a new scene applied, and the channels concerned recomputed (R34,
R73). -/
theorem exists_changed {i : StreamId} {old : LossPolicy} {s : State} (differ : (s.streams.get i).policy ≠ old) :
    ∃ overrides targets ramps,
      let t : State := { s with target := { overrides := overrides, targets := targets }, ramps := ramps }
      changeLostPolicy i old s = t
        ∧ (∀ c, overrides.get c = lossApplied s i (s.streams.get i).policy
            (if heldByLoss s i c = true then lossOverride s c else s.target.overrides.get c) c)
        ∧ Recomputed (fun c => heldByLoss s i c = true ∨ overrides.get c ≠ s.target.overrides.get c
            ∨ (old = .hold ∨ (s.streams.get i).policy = .hold) ∧ hasPresent s i c = true) s t := by
  obtain ⟨reversed, reverses, held⟩ := exists_reversed i s
  obtain ⟨overrides, applies, cells⟩ : ∃ overrides,
      applyPolicyScene i (s.streams.get i).policy (reverseLoss i s) = { s with target := { s.target with overrides := overrides } }
        ∧ ∀ c, overrides.get c = lossApplied s i (s.streams.get i).policy (reversed.get c) c := by
    rw [reverses]
    cases (s.streams.get i).policy with
    | scene n =>
      refine ⟨(applyLossScene i n { s with target := { s.target with overrides := reversed } }).target.overrides, ?_,
        fun c => (applyLossScene_overrides i n _ c).trans ?_⟩
      · dsimp only [applyPolicyScene]
        simp only [applyLossScene]
      · rw [lossApplied_congr (s := s) (by rfl)]
    | hold => exact ⟨reversed, rfl, fun c => by rw [lossApplied_hold]⟩
    | release => exact ⟨reversed, rfl, fun c => by rw [lossApplied_release]⟩
  obtain ⟨targets, ramps, recomputes, recomputed⟩ := exists_recomputed
    (fun c => heldByLoss s i c || overrideDiffers s { s with target := { s.target with overrides := overrides } } c
      || (((old == .hold) != ((s.streams.get i).policy == .hold)) && hasPresent s i c)) s
    { s with target := { s.target with overrides := overrides } } rfl rfl
  refine ⟨overrides, targets, ramps, ?_, fun c => by rw [cells, held], recomputed.of_iff fun c => ?_⟩
  · rw [changeLostPolicy_of_ne differ, applies, recomputes]
  · have either : ((old == .hold) != ((s.streams.get i).policy == .hold)) = true
        ↔ old = .hold ∨ (s.streams.get i).policy = .hold := by
      by_cases was : old = .hold <;> by_cases is : (s.streams.get i).policy = .hold
      · exact (differ (is.trans was.symm)).elim
      all_goals simp [was, is]
    simp only [overrideDiffers, Bool.or_eq_true, Bool.and_eq_true, bne_iff_ne, ne_comm (a := s.target.overrides.get c),
      or_assoc] at either ⊢
    rw [either]

/-- What SET STREAM does, by the state the stream was in and its enable (R69 to R73). -/
theorem applySetStream_cases (i : StreamId) (e : Bool) (t : TimeoutSetting) (q : LossPolicy) (s : State) :
    let old := s.streams.get i
    let r := { old with timeout := t, policy := q }
    let t := applySetStream i e t q s
    (old.state = .disabled ∧ e = true ∧ t = setStream i { r with state := .silent, measured := 0, ticks := 0 } s)
      ∨ ((old.state = .disabled ∧ e = false ∨ old.state = .silent ∧ e = true) ∧ t = setStream i r s)
      ∨ (old.state = .live ∧ e = true ∧ t = examineExpiry i (setStream i r s))
      ∨ (old.state = .lost ∧ e = true ∧ t = changeLostPolicy i old.policy (setStream i r s))
      ∨ (old.state ≠ .disabled ∧ e = false ∧ t = disableStream i r s) := by
  intro old r
  unfold applySetStream
  dsimp only
  split
  · next state => exact .inl ⟨state, rfl, rfl⟩
  · next state => exact .inr (.inl ⟨.inl ⟨state, rfl⟩, rfl⟩)
  · next state => exact .inr (.inl ⟨.inr ⟨state, rfl⟩, rfl⟩)
  · next state => exact .inr (.inr (.inl ⟨state, rfl, rfl⟩))
  · next state => exact .inr (.inr (.inr (.inl ⟨state, rfl, rfl⟩)))
  · next other => exact .inr (.inr (.inr (.inr ⟨fun state => other state, rfl, rfl⟩)))

/-- What SET STREAM does writes the streams, the patch unit, the target unit and the ramps alone: the record by the case of R69 to
R72, and nothing but it where no loss effect arises. -/
theorem exists_applied (i : StreamId) (e : Bool) (t : TimeoutSetting) (q : LossPolicy) (s : State) :
    let old := s.streams.get i
    let r := { old with timeout := t, policy := q }
    ∃ streams patch target ramps,
      applySetStream i e t q s = { s with streams := streams, patch := patch, target := target, ramps := ramps }
        ∧ (∀ j, streams.get j =
          if j = i then
            match old.state, e with
            | .disabled, false => r
            | .disabled, true => { r with state := .silent, measured := 0, ticks := 0 }
            | .live, true => if effectiveTimeout r ≤ r.ticks then { r with state := .lost } else r
            | _, true => r
            | _, false => { r with state := .disabled, measured := 0, ticks := 0 }
          else s.streams.get j)
        ∧ (old.state = .disabled ∨ old.state = .silent ∧ e = true
            ∨ old.state = .live ∧ e = true ∧ r.ticks < effectiveTimeout r ∨ old.state = .lost ∧ e = true ∧ q = old.policy →
            patch = s.patch ∧ target = s.target ∧ ramps = s.ramps) := by
  intro old r
  rcases applySetStream_cases i e t q s with ⟨state, rfl, done⟩ | ⟨cases, done⟩ | ⟨state, rfl, done⟩ | ⟨state, rfl, done⟩
    | ⟨state, rfl, done⟩ <;> rw [done]
  · refine ⟨_, s.patch, s.target, s.ramps, rfl, fun j => ?_, fun _ => ⟨rfl, rfl, rfl⟩⟩
    rw [Tab.get_put, show old.state = .disabled from state]
  · refine ⟨_, s.patch, s.target, s.ramps, rfl, fun j => ?_, fun _ => ⟨rfl, rfl, rfl⟩⟩
    rw [Tab.get_put]
    rcases cases with ⟨state, rfl⟩ | ⟨state, rfl⟩ <;> simp [r, old, state]
  · obtain ⟨overrides, targets, ramps, examines, cells, quiet⟩ := exists_examined i (setStream i r s)
    have record : (setStream i r s).streams.get i = r := by simp
    have due : expiryDue r = true ↔ effectiveTimeout r ≤ r.ticks := by
      rw [expiryDue_iff]
      exact ⟨fun h => h.2, fun h => ⟨state, h⟩⟩
    rw [record] at examines cells quiet
    refine ⟨_, s.patch, _, _, examines, fun j => ?_, fun still => ?_⟩
    · rw [show old.state = .live from state]
      by_cases late : effectiveTimeout r ≤ r.ticks <;> by_cases here : j = i <;>
        simp [due, late, here, setStream]
    · have early : ¬ expiryDue r = true := by
        rcases still with h | ⟨h, -⟩ | ⟨-, -, early⟩ | ⟨h, -⟩
        · rw [show old.state = .live from state] at h; cases h
        · rw [show old.state = .live from state] at h; cases h
        · rw [due]; omega
        · rw [show old.state = .live from state] at h; cases h
      obtain ⟨rfl, rfl⟩ := quiet (.inl (by simpa using early))
      have same : overrides = s.target.overrides := Tab.ext_get fun c => by rw [cells, if_neg early]; rfl
      rw [same]
      exact ⟨rfl, rfl, rfl⟩
  · have record : (setStream i r s).streams.get i = r := by simp
    have streams : ∀ j, (s.streams.put i r).get j = if j = i then r else s.streams.get j := fun j => Tab.get_put _ _ _ _
    by_cases same : q = old.policy
    · refine ⟨s.streams.put i r, s.patch, s.target, s.ramps, ?_, fun j => ?_, fun _ => ⟨rfl, rfl, rfl⟩⟩
      · rw [changeLostPolicy, record, if_pos same]
        rfl
      · rw [streams, show old.state = .lost from state]
    · obtain ⟨overrides, targets, ramps, changes, -, -⟩ :=
        exists_changed (i := i) (old := old.policy) (s := setStream i r s) (by rw [record]; exact same)
      refine ⟨s.streams.put i r, s.patch, _, _, changes, fun j => ?_, fun still => ?_⟩
      · rw [streams, show old.state = .lost from state]
      · rcases still with h | ⟨h, -⟩ | ⟨h, -⟩ | ⟨-, -, h⟩
        · rw [show old.state = .lost from state] at h; cases h
        · rw [show old.state = .lost from state] at h; cases h
        · rw [show old.state = .lost from state] at h; cases h
        · exact (same h).elim
  · obtain ⟨contributions, overrides, targets, ramps, disables, -⟩ := exists_disabled i r s
    refine ⟨_, _, _, _, disables, fun j => ?_, fun still => ?_⟩
    · rw [Tab.get_put]
      cases h : old.state
      · exact (state h).elim
      all_goals rfl
    · rcases still with h | ⟨-, h⟩ | ⟨-, h, -⟩ | ⟨-, h, -⟩
      · exact (state h).elim
      all_goals cases h

theorem applySetStream_off {i : StreamId} {s : State} (on : (s.streams.get i).state ≠ .disabled) (t : TimeoutSetting)
    (q : LossPolicy) :
    applySetStream i false t q s = disableStream i { s.streams.get i with timeout := t, policy := q } s := by
  rcases applySetStream_cases i false t q s with ⟨-, h, -⟩ | ⟨⟨h, -⟩ | ⟨-, h⟩, -⟩ | ⟨-, h, -⟩ | ⟨-, h, -⟩ | ⟨-, -, done⟩
  · cases h
  · exact (on h).elim
  · cases h
  · cases h
  · cases h
  · exact done

theorem applySetStream_live {i : StreamId} {s : State} (live : (s.streams.get i).state = .live) (t : TimeoutSetting)
    (q : LossPolicy) :
    applySetStream i true t q s = examineExpiry i (setStream i { s.streams.get i with timeout := t, policy := q } s) := by
  simp only [applySetStream, live]

theorem applySetStream_lost {i : StreamId} {s : State} (lost : (s.streams.get i).state = .lost) (t : TimeoutSetting)
    (q : LossPolicy) :
    applySetStream i true t q s = changeLostPolicy i (s.streams.get i).policy
      (setStream i { s.streams.get i with timeout := t, policy := q } s) := by
  simp only [applySetStream, lost]

theorem streamStateCode_eq_number (x : StreamState) : streamStateCode x = streamStateNumber x := by
  cases x <;> rfl

/-- A SET STREAM whose references are defined is done with the state of the stream as data (R159). -/
theorem exec_setStream_named {s s' : State} {seq : Byte} {i : StreamId} {e : Bool} {t : TimeoutSetting} {q : LossPolicy}
    (ready : Ready s seq) (some_ticks : t ≠ .ticks 0)
    (named : ∀ n, q = .scene n → DefinedWhereNeeded s fun t => t.scenes.get n ≠ none)
    (applies : applySetStream i e t q s = s') :
    exec (.setStream seq (paramsOf (.setStream i e t q))) s = .next { s' with
      command := withReply s'.command (doneRecord seq 11 [streamStateNumber (s'.streams.get i).state]) } := by
  have ends := effectSetStream_named ((policyNamed_iff s q).mpr named) i e t
  rw [applies, streamStateCode_eq_number] at ends
  exact exec_ready_done (c := .setStream i e t q) some_ticks ready rfl ends

end Sys2Proof.Machine

open Sys2Proof Sys2Proof.Machine

/-- Settles O23: the examination of a due stream is its loss. -/
theorem streamExpiryAppliesPolicy : Obligations.StreamExpiryAppliesPolicy := by
  intro s i r
  refine ⟨fun live late => ?due, fun other => ?undue⟩
  case due =>
    obtain ⟨overrides, targets, ramps, loses, cells, recomputed⟩ := exists_lost i s
    obtain ⟨streams, record⟩ : ∃ x : Tab 16 StreamRecord, x = s.streams.put i { r with state := .lost } := ⟨_, rfl⟩
    have done : exec (.streamExpiry i) s = .next (examineExpiry i s) := rfl
    rw [examineExpiry, if_pos ((expiryDue_iff _).mpr ⟨live, late⟩), loses] at done
    rw [← record] at done recomputed
    exact ⟨_, done, fun j => by rw [record, Tab.get_put], cells, recomputed, rfl⟩
  case undue =>
    have not_due : ¬ expiryDue r = true := fun due => by
      obtain ⟨live, late⟩ := (expiryDue_iff r).mp due
      rcases other with h | h
      · exact h live
      · omega
    rw [show exec (.streamExpiry i) s = .next (examineExpiry i s) from rfl, examineExpiry, if_neg not_due]

/-- Settles O48: the overrides set, then the recomputation of exactly their channels. -/
theorem recallSceneSetsOverrides : Obligations.RecallSceneSetsOverrides := by
  intro s seq n mask profile ready row named inBoth
  have both : recalled s n mask = inBoth := by
    funext c
    cases mask <;> rfl
  have checks : ((s.active.scenes.get n).isSome && profileNamed s profile) = true ↔ named := by
    simp only [named, Bool.and_eq_true, Option.isSome_iff_ne_none]
    refine and_congr_right fun _ => ?_
    cases profile with
    | none => simp [profileNamed]
    | some p =>
      simp only [profileNamed, definedInBoth, DefinedWhereNeeded, Armed, Bool.and_eq_true, Option.some.injEq, forall_eq',
        Option.isSome_iff_ne_none]
      cases s.staging.state <;> simp [Option.isSome_iff_ne_none]
  refine ⟨fun is_named => ?sets, fun unnamed => ?refuses⟩
  case sets =>
    obtain ⟨scene, profile_named⟩ := Bool.and_eq_true_iff.mp (checks.mpr is_named)
    obtain ⟨overrides, cells⟩ : ∃ x : Tab 24 (Option Override), x = Tab.of (recalledOverride s n mask profile) := ⟨_, rfl⟩
    obtain ⟨_, _, recomputes, recomputed⟩ := exists_recomputed inBoth s
      { s with target := { s.target with overrides := overrides } } rfl rfl
    have ends := effectRecallScene_named scene profile_named mask
    rw [sceneRecalled, ← cells, both, recomputes] at ends
    refine ⟨_, exec_ready_done (c := .recallScene n mask profile) trivial ready ?_ ends, fun c => ?_, recomputed, rfl⟩
    · cases mask <;> cases profile <;> rfl
    · rw [cells, Tab.get_of, ← congrFun both c]; rfl
  case refuses =>
    have fails : ((s.active.scenes.get n).isSome && profileNamed s profile) = false := by
      rw [← Bool.not_eq_true, checks]
      exact unnamed
    exact exec_ready_refused (c := .recallScene n mask profile) trivial ready (by cases mask <;> cases profile <;> rfl)
      (effectRecallScene_unnamed fails mask)

/-- Settles O49: the overrides of the mask removed, their channels re-examined and recomputed. -/
theorem releaseReexamines : Obligations.ReleaseReexamines := by
  intro s seq m ready chosen
  have ends := effect_release m s
  rw [show releasable m s = chosen from rfl] at ends
  clear_value chosen
  obtain ⟨overrides, cells⟩ : ∃ x : Tab 24 (Option Override),
      x = (reexamine chosen (removeOverrides chosen s)).target.overrides := ⟨_, rfl⟩
  have held (c : Channel) : overrides.get c = if chosen c = true then lossOverride s c else s.target.overrides.get c := by
    rw [cells, reexamine_removed_get]
  have released : reexamine chosen (removeOverrides chosen s) = { s with target := { s.target with overrides := overrides } } := by
    rw [cells]
    simp only [reexamine, removeOverrides]
  obtain ⟨_, _, recomputes, recomputed⟩ := exists_recomputed chosen s
    { s with target := { s.target with overrides := overrides } } rfl rfl
  have set_again : (fun c => chosen c && (overrides.get c).isSome) = fun c => chosen c && (lossOverride s c).isSome := by
    funext c
    by_cases h : chosen c = true <;> simp [held, h]
  rw [released, recomputes] at ends
  dsimp only at ends
  rw [set_again] at ends
  refine ⟨_, exec_ready_done (c := .release m) trivial ready rfl ends, held, fun c o found => ?_, fun c found j k => ?_,
    recomputed, rfl⟩
  · obtain ⟨i, n, origin, none, lost, policy, patched, named, below⟩ := lossOverride_eq_some found
    exact ⟨i, n, origin, none, lost, policy, patched, named, fun j hj k => lossLevel_eq_none (below j hj) k⟩
  · exact lossLevel_eq_none (lossOverride_eq_none found j) k

/-- Settles O45: the stream records by the case of R69 to R72, every other block as it was. -/
theorem setStreamRecords : Obligations.SetStreamRecords := by
  intro s seq i enable timeout policy ready some_ticks row named old r
  refine ⟨fun is_named => ?named, fun unnamed => ?refused⟩
  case named =>
    obtain ⟨streams, patch, target, ramps, applies, records, quiet⟩ := exists_applied i enable timeout policy s
    exact ⟨_, exec_setStream_named ready some_ticks is_named applies, records, rfl, rfl, quiet⟩
  case refused =>
    have fails : policyNamed s policy = false := by
      rw [← Bool.not_eq_true, policyNamed_iff]
      exact unnamed
    exact exec_ready_refused (c := .setStream i enable timeout policy) some_ticks ready rfl
      (effectSetStream_unnamed fails i enable timeout)

/-- Settles O46: the disable of an enabled stream. -/
theorem setStreamDisables : Obligations.SetStreamDisables := by
  intro s seq i timeout policy ready some_ticks on named
  obtain ⟨contributions, overrides, targets, ramps, disables, dropped, held, recomputed⟩ :=
    exists_disabled i { s.streams.get i with timeout := timeout, policy := policy } s
  have applies := (applySetStream_off on timeout policy).trans disables
  refine ⟨_, exec_setStream_named ready some_ticks named applies, ?_, dropped, rfl, fun c => ?_,
    recomputed.congr rfl rfl rfl rfl rfl⟩
  · dsimp only
    rw [Tab.get_put_same]
  · rw [held c]
    congr 1

/-- Settles O47: the change of a LOST stream's policy, and the loss of a LIVE one. -/
theorem setStreamChangesLoss : Obligations.SetStreamChangesLoss := by
  intro s seq i timeout policy ready some_ticks named row old
  obtain ⟨streams, record⟩ : ∃ x : Tab 16 StreamRecord,
    x = s.streams.put i { old with timeout := timeout, policy := policy } := ⟨_, rfl⟩
  have own : streams.get i = { old with timeout := timeout, policy := policy } := by rw [record, Tab.get_put_same]
  have written : setStream i { old with timeout := timeout, policy := policy } s = { s with streams := streams } := by
    rw [record]
    rfl
  refine ⟨fun lost differ => ?changes, fun live late => ?loses⟩
  case changes =>
    obtain ⟨overrides, targets, ramps, changes, cells, recomputed⟩ := exists_changed (i := i) (old := old.policy)
      (s := { s with streams := streams }) (by rw [own]; exact differ)
    rw [own] at cells recomputed
    have applies := applySetStream_lost lost timeout policy
    rw [written] at applies
    have applies := applies.trans changes
    refine ⟨_, exec_setStream_named ready some_ticks named applies, rfl, fun c => ?_, ?_⟩
    · dsimp only
      rw [cells c, heldByLoss_congr (s := s) (by rfl)]
      symm
      rw [lossApplied_congr (s := { s with streams := streams }) (by rfl)]
      congr 2
    · rw [heldByLoss_congr (s := s) (by rfl), hasPresent_congr (s := s) (by rfl) (by rfl)] at recomputed
      exact (recomputed.of_before (s' := s) rfl rfl).congr rfl rfl rfl rfl rfl
  case loses =>
    have due : expiryDue (streams.get i) = true := by
      rw [own]
      exact (expiryDue_iff _).mpr ⟨live, late⟩
    obtain ⟨overrides, targets, ramps, loses, cells, recomputed⟩ := exists_lost i { s with streams := streams }
    rw [own] at cells recomputed loses
    have applies := applySetStream_live live timeout policy
    rw [written, examineExpiry, if_pos due, loses] at applies
    refine ⟨_, exec_setStream_named ready some_ticks named applies, rfl, fun c => ?_, ?_⟩
    · dsimp only
      rw [cells c, lossApplied_congr (s := s) (by rfl)]
    · rw [hasPresent_congr (s := s) (by rfl) (by rfl)] at recomputed
      exact (recomputed.of_before (s' := s) rfl rfl).congr rfl rfl rfl rfl rfl

end

section
/-! PROOF. The tick and the ramp delay (O22, O26). -/

namespace Sys2Proof.Machine

/-! ### Expiries taken one after another (R35, R66) -/

/-- The override that the loss of a stream that is due gives a channel without one (R30). -/
def overrideOfLoss (s : State) (c : Channel) (i : StreamId) : Option Override :=
  if expiryDue (s.streams.get i) = true then lossApplied s i (s.streams.get i).policy none c else none

/-- An override that stands is kept, whatever is lost (R30). -/
theorem lossApplied_eq_or (s : State) (i : StreamId) (p : LossPolicy) (o : Option Override) (c : Channel) :
    lossApplied s i p o c = o.or (lossApplied s i p none c) := by
  cases o <;> rfl

/-- Every stream of a list examined in turn: those due are LOST, and a channel without an override has that of the first of them
whose loss gives it one. -/
theorem exists_examinedInTurn (turn : List StreamId) (s : State) :
    ∃ streams overrides targets ramps,
      turn.foldl (fun t i => examineExpiry i t) s
          = { s with streams := streams, target := { overrides := overrides, targets := targets }, ramps := ramps }
        ∧ (∀ i, streams.get i = if i ∈ turn ∧ expiryDue (s.streams.get i) = true then
            { s.streams.get i with state := .lost } else s.streams.get i)
        ∧ (∀ c, overrides.get c = (s.target.overrides.get c).or (turn.findSome? (overrideOfLoss s c)))
        ∧ ((∀ i, expiryDue (s.streams.get i) = true → (s.streams.get i).policy = .hold) →
            targets = s.target.targets ∧ ramps = s.ramps) := by
  induction turn generalizing s with
  | nil => exact ⟨s.streams, s.target.overrides, s.target.targets, s.ramps, rfl, by simp, by simp, fun _ => ⟨rfl, rfl⟩⟩
  | cons i rest ih =>
    obtain ⟨overrides₁, targets₁, ramps₁, examines, cells, quiet⟩ := exists_examined i s
    obtain ⟨streams₁, records⟩ : ∃ x, x = (examineExpiry i s).streams := ⟨_, rfl⟩
    have lost (j : StreamId) : streams₁.get j =
        if j = i ∧ expiryDue (s.streams.get i) = true then { s.streams.get i with state := .lost } else s.streams.get j := by
      rw [records, examineExpiry_streams]
    have frame : examineExpiry i s = { s with
        streams := streams₁, target := { overrides := overrides₁, targets := targets₁ }, ramps := ramps₁ } := by
      rw [records, examines]
    have spent : expiryDue { s.streams.get i with state := .lost } = false := rfl
    obtain ⟨streams, overrides, targets, ramps, rests, found, given, still⟩ := ih { s with
      streams := streams₁, target := { overrides := overrides₁, targets := targets₁ }, ramps := ramps₁ }
    refine ⟨streams, overrides, targets, ramps, ?_, fun j => ?_, fun c => ?_, fun held => ?_⟩
    · rw [List.foldl_cons, frame, rests]
    · rw [found j]
      dsimp only
      rw [lost j]
      by_cases due : expiryDue (s.streams.get i) = true <;> by_cases here : j = i <;> simp [due, here, spent]
    · have first : overrides₁.get c = (s.target.overrides.get c).or (overrideOfLoss s c i) := by
        rw [cells c, overrideOfLoss]
        by_cases due : expiryDue (s.streams.get i) = true
        · rw [if_pos due, if_pos due, lossApplied_eq_or]
        · simp [due]
      have others (none : overrideOfLoss s c i = none) : overrideOfLoss { s with
          streams := streams₁, target := { overrides := overrides₁, targets := targets₁ }, ramps := ramps₁ } c
            = overrideOfLoss s c := by
        funext j
        simp only [overrideOfLoss] at none ⊢
        rw [lossApplied_congr (s := s) (by rfl)]
        have cell := lost j
        by_cases here : j = i ∧ expiryDue (s.streams.get i) = true
        · rw [if_pos here] at cell
          obtain ⟨rfl, due⟩ := here
          rw [cell, if_neg (by rw [spent]; simp), none]
        · rw [if_neg here] at cell
          rw [cell]
      rw [given c, List.findSome?_cons]
      dsimp only
      rw [first, Option.or_assoc]
      cases loss : overrideOfLoss s c i with
      | some o => simp
      | none => simp [others loss]
    · have kept := quiet (by
        by_cases due : expiryDue (s.streams.get i) = true
        · exact .inr (held i due)
        · exact .inl (by simpa using due))
      obtain ⟨rfl, rfl⟩ := still fun j due => by
        dsimp only at due ⊢
        rw [lost j] at due ⊢
        by_cases here : j = i ∧ expiryDue (s.streams.get i) = true
        · rw [if_pos here] at due
          cases due
        · rw [if_neg here] at due ⊢
          exact held j due
      exact kept

theorem expiredInOrder_eq_foldl (turn : List StreamId) (s : State) :
    expiredInOrder turn s = turn.foldl (fun t i => examineExpiry i t) s := by
  induction turn generalizing s with
  | nil => rfl
  | cons i rest ih => exact ih (examineExpiry i s)

/-- A stream is due after the counting of a tick where its count before had come within one of its effective timeout (R61, R66). -/
theorem expiryDue_counted (r : StreamRecord) :
    expiryDue (if r.state = .live then { r with ticks := r.ticks + 1 } else r) = true
      ↔ r.state = .live ∧ effectiveTimeout r ≤ r.ticks + 1 := by
  by_cases live : r.state = .live
  · rw [if_pos live, expiryDue_iff]
    rfl
  · simp [expiryDue_iff, live]

theorem exec_tick {s : State} (runs : blocksRun s = true) (order : List StreamId) :
    exec (.tick order) s = .next ((order ++ List.finRange 16).foldl (fun t i => examineExpiry i t) { s with
      ring := { s.ring with holdLeft := 0 }
      tickCount := s.tickCount + 1
      streams := Tab.of fun j =>
        if (s.streams.get j).state = .live then { s.streams.get j with ticks := (s.streams.get j).ticks + 1 }
        else s.streams.get j }) := by
  have taken : exec (.tick order) s = .next (if blocksRun s then takeTick order (endHold s) else endHold s) := rfl
  rw [taken, if_pos runs]
  rfl

end Sys2Proof.Machine

open Sys2Proof Sys2Proof.Machine

/-- Settles O26: the case split of the delay's expiry. -/
theorem rampDelayExpires : Obligations.RampDelayExpires := by
  intro s c
  refine ⟨_, rfl, fun d => ?_, rfl⟩
  rw [Tab.get_put]
  by_cases here : d = c
  · subst here
    by_cases due : (s.ramps.get d).state = .waiting ∧ (s.ramps.get d).delay = 0
    · obtain ⟨waiting, zero⟩ := due
      simp [delayExpiry, waiting, zero]
    · rw [if_pos rfl, if_neg fun h => due h.2, delayExpiry]
      simp only [if_neg due]
  · simp [here]

/-- Settles O22: the counting, then the induction over the expiries taken in turn. -/
theorem tickCountsAndLoses : Obligations.TickCountsAndLoses := by
  intro s order due counted turn after
  refine ⟨fun runs => ?runs, fun held => ?held⟩
  case held =>
    have taken : exec (.tick order) s = .next (if blocksRun s then takeTick order (endHold s) else endHold s) := rfl
    rw [taken, held]
    rfl
  case runs =>
    obtain ⟨raised, records⟩ : ∃ x : Tab 16 StreamRecord, x = Tab.of fun j => counted (s.streams.get j) := ⟨_, rfl⟩
    have cell (i : StreamId) : raised.get i = counted (s.streams.get i) := by rw [records, Tab.get_of]
    have is_due (i : StreamId) : expiryDue (raised.get i) = true ↔ due (s.streams.get i) := by
      rw [cell]
      exact expiryDue_counted _
    have same_policy (i : StreamId) : (raised.get i).policy = (s.streams.get i).policy := by
      rw [cell]
      simp only [counted]
      split <;> rfl
    have every (i : StreamId) : i ∈ turn := List.mem_append_right _ (List.mem_finRange i)
    have taken := exec_tick runs order
    rw [show Tab.of (fun j => if (s.streams.get j).state = .live then { s.streams.get j with ticks := (s.streams.get j).ticks + 1 }
      else s.streams.get j) = raised from records.symm] at taken
    obtain ⟨streams, overrides, targets, ramps, ends, lost, given, quiet⟩ := exists_examinedInTurn turn
      { after with tickCount := s.tickCount + 1, streams := raised }
    have gives (c : Channel) (i : StreamId) : overrideOfLoss { after with tickCount := s.tickCount + 1, streams := raised } c i
        = if due (s.streams.get i) then lossApplied s i (s.streams.get i).policy none c else none := by
      simp only [overrideOfLoss, is_due, same_policy]
      rw [lossApplied_congr (s := s) (by rfl)]
    rw [ends] at taken
    refine ⟨_, taken, fun i => ⟨fun is => ?_, fun is_not => ?_⟩, rfl, fun hold => ?_, ?_, fun c => ⟨fun o stands => ?_,
      fun free i before rest splits is names unnamed => ?_, fun free unnamed => ?_⟩⟩
    · dsimp only
      rw [lost i, if_pos ⟨every i, (is_due i).mpr is⟩]
      dsimp only
      rw [cell]
      simp [counted, is.1]
    · dsimp only
      rw [lost i, if_neg fun h => is_not ((is_due i).mp h.2)]
      exact cell i
    · obtain ⟨rfl, rfl⟩ := quiet fun i is => (same_policy i).trans (hold i ((is_due i).mp is))
      have same : overrides = s.target.overrides := Tab.ext_get fun c => by
        rw [given c, List.findSome?_eq_none_iff.mpr fun i _ => ?_, Option.or_none]
        rw [gives]
        split
        · next is => rw [hold i is, lossApplied_hold]
        · rfl
      rw [same]
      exact ⟨rfl, rfl⟩
    · rw [expiredInOrder_eq_foldl, ← records, ends]
    · rw [given c]
      dsimp only
      rw [stands]
      rfl
    · rw [given c]
      dsimp only
      rw [free, splits, List.findSome?_append, List.findSome?_eq_none_iff.mpr fun j hj => ?_]
      · rw [Option.none_or, Option.none_or, List.findSome?_cons, gives, if_pos is]
        cases found : lossApplied s i (s.streams.get i).policy none c with
        | none => exact (names found).elim
        | some o => rfl
      · rw [gives]
        split
        · next is_due_too => exact unnamed j hj is_due_too
        · rfl
    · rw [given c]
      dsimp only
      rw [free, Option.none_or, List.findSome?_eq_none_iff]
      intro i _
      rw [gives]
      split
      · next is => exact unnamed i is
      · rfl

end

section
/-! PROOF. The frame in transit: what the ring interface is byte by byte, and what a whole frame comes to. -/

namespace Sys2Proof.Machine

/-! ### The plan and the bytes sent, by the body received so far (R181, R183, R185, R186) -/

/-- The frame in transit is an ENUMERATE whose counter and flags this node substitutes (R181). -/
abbrev Numbered (k : Byte) (l : BitVec 16) : Prop := k = 4 ∧ l = 2

/-- The frame in transit is a POLL of this node (R185). -/
abbrev Polled (s : State) (k : Byte) (l : BitVec 16) (d : List Byte) : Prop :=
  k = 3 ∧ l = 26 ∧ s.ring.address.toNat ≠ 0 ∧ d.head? = some s.ring.address

/-- The frame in transit is a HEALTH frame with a position for this node (R186). -/
abbrev Positioned (s : State) (k : Byte) (l : BitVec 16) (d : List Byte) : Prop :=
  k = 6 ∧ 1 ≤ (d.headD 0).toNat ∧ (d.headD 0).toNat ≤ 250 ∧ l.toNat = 1 + (d.headD 0).toNat
    ∧ 1 ≤ s.ring.address.toNat ∧ s.ring.address.toNat ≤ (d.headD 0).toNat

/-- The in-flight plan after the body bytes `d` of a frame. -/
inductive PlanAt (s : State) (k : Byte) (l : BitVec 16) : List Byte → Plan → Prop
  | numbered {d} (h : Numbered k l) : PlanAt s k l d .enumerate
  | matched (x) (h : Polled s k l [x]) : PlanAt s k l [x] .pollMatched
  | answered (x seq d) (h : Polled s k l (x :: seq :: d)) : PlanAt s k l (x :: seq :: d) (.pollAnswer (pollAnswer s seq))
  | positioned {d} (h : Positioned s k l d) : PlanAt s k l d (.health s.ring.address.toNat)
  | repeated {d} (numbered : ¬ Numbered k l) (polled : ¬ Polled s k l d) (positioned : ¬ Positioned s k l d) :
      PlanAt s k l d .repeated

theorem Polled.of_kind {s : State} {k : Byte} {l : BitVec 16} {d : List Byte} (h : Polled s k l d) : k = 3 := h.1
theorem Positioned.of_kind {s : State} {k : Byte} {l : BitVec 16} {d : List Byte} (h : Positioned s k l d) : k = 6 := h.1

theorem planAt_nil (s : State) (k : Byte) (l : BitVec 16) : PlanAt s k l [] (planAfterLength k l) := by
  unfold planAfterLength
  split
  · next h => exact .numbered h
  · next h => exact .repeated h (by simp [Polled]) (by simp [Positioned])

/-- Two states with the same records answer a POLL alike (R144). -/
theorem pollAnswer_congr {s u : State} (command : u.command = s.command) : pollAnswer u = pollAnswer s := by
  funext seq
  simp only [pollAnswer, command]

/-- Polled and positioned depend on the first body byte alone. -/
theorem polled_cons_iff (s : State) (k : Byte) (l : BitVec 16) (y : Byte) (d e : List Byte) :
    Polled s k l (y :: d) ↔ Polled s k l (y :: e) := by simp [Polled]
theorem positioned_cons_iff (s : State) (k : Byte) (l : BitVec 16) (y : Byte) (d e : List Byte) :
    Positioned s k l (y :: d) ↔ Positioned s k l (y :: e) := by simp [Positioned]

section
variable {s u : State} {k : Byte} {l : BitVec 16} {d : List Byte} (kind : u.ring.kind = k)
  (length : u.ring.length = l) (address : u.ring.address = s.ring.address) (command : u.command = s.command)
  (plan : PlanAt s k l d u.ring.plan) (x : Byte)

include kind length address command plan

/-- The plan follows the body byte by byte. -/
theorem planAfterBody_planAt : PlanAt s k l (d ++ [x]) (planAfterBody u d.length x) := by
  cases d with
  | nil =>
    have first : planAfterBody u 0 x =
        if Polled s k l [x] then .pollMatched
        else if Positioned s k l [x] then .health s.ring.address.toNat else u.ring.plan := by
      have some : s.ring.address ≠ 0 ↔ s.ring.address.toNat ≠ 0 := by
        rw [Ne, BitVec.toNat_eq]
        rfl
      simp only [planAfterBody, kind, length, address, if_true]
      refine if_congr ?_ rfl (if_congr ?_ rfl rfl)
      · simp only [Polled, List.head?_cons, Option.some.injEq, some]
        tauto
      · simp only [Positioned, List.headD_cons]
    rw [List.nil_append, List.length_nil, first]
    split
    · next polled => exact .matched x polled
    · next not_polled =>
      split
      · next positioned => exact .positioned positioned
      · next not_positioned =>
        generalize u.ring.plan = p at plan
        cases plan with
        | numbered h => exact .numbered h
        | positioned h => exact absurd h.2.1 (by simp)
        | repeated numbered _ _ => exact .repeated numbered not_polled not_positioned
  | cons y d =>
    have later : planAfterBody u (y :: d).length x =
        if d = [] ∧ u.ring.plan = .pollMatched then .pollAnswer (pollAnswer s x) else u.ring.plan := by
      simp only [planAfterBody, List.length_cons, Nat.add_eq_zero_iff, one_ne_zero, and_false, if_false,
        pollAnswer_congr command, Nat.add_eq_right, List.length_eq_zero_iff]
    rw [later]
    generalize u.ring.plan = p at plan
    cases plan
    case repeated numbered polled positioned =>
      rw [if_neg (by simp)]
      exact .repeated numbered (by rwa [List.cons_append, polled_cons_iff s k l y _ d])
        (by rwa [List.cons_append, positioned_cons_iff s k l y _ d])
    case numbered numbered =>
      rw [if_neg (by simp)]
      exact .numbered numbered
    case matched polled =>
      rw [if_pos ⟨rfl, rfl⟩]
      exact .answered y x [] (by rwa [polled_cons_iff s k l y _ []])
    case answered seq d polled =>
      rw [if_neg (by simp)]
      exact .answered y seq (d ++ [x]) (by rwa [polled_cons_iff s k l y _ (seq :: d)])
    case positioned positioned =>
      rw [if_neg (by simp)]
      exact .positioned (by rwa [List.cons_append, positioned_cons_iff s k l y _ d])

end

/-! ### The body sent (R181, R183, R185, R186) -/

theorem bodySent_numbered (s : State) {k : Byte} {l : BitVec 16} (h : Numbered k l) (c flags : Byte) :
    bodySent s k l [c, flags] = [enumerateCounterOut c, enumerateFlagsOut c flags] := by
  simp only [bodySent, if_pos h, enumerateCounterOut, enumerateFlagsOut]
  split <;> rfl

theorem bodySent_polled {s : State} {k : Byte} {l : BitVec 16} {y seq : Byte} {d : List Byte}
    (h : Polled s k l (y :: seq :: d)) : bodySent s k l (y :: seq :: d) = y :: seq :: pollAnswer s seq := by
  have kind := h.of_kind
  unfold bodySent
  dsimp only
  rw [if_neg (by rw [kind]; simp), if_pos h]

theorem bodySent_positioned {s : State} {k : Byte} {l : BitVec 16} {b : List Byte} (h : Positioned s k l b) :
    bodySent s k l b = b.set s.ring.address.toNat (healthByte s) := by
  have kind := h.of_kind
  unfold bodySent
  dsimp only
  rw [if_neg (by rw [kind]; simp), if_neg (by rw [kind]; simp), if_pos h]

theorem bodySent_repeated {s : State} {k : Byte} {l : BitVec 16} {b : List Byte} (numbered : ¬ Numbered k l)
    (polled : ¬ Polled s k l b) (positioned : ¬ Positioned s k l b) : bodySent s k l b = b := by
  unfold bodySent
  dsimp only
  rw [if_neg numbered, if_neg polled, if_neg positioned]

theorem pollAnswer_length (s : State) (seq : Byte) : (pollAnswer s seq).length = 24 := by
  unfold pollAnswer answerArea
  split
  · rfl
  · split <;> simp

theorem bodySent_length (s : State) (k : Byte) {l : BitVec 16} {b : List Byte} (whole : b.length = l.toNat) :
    (bodySent s k l b).length = b.length := by
  by_cases numbered : Numbered k l
  · obtain ⟨-, rfl⟩ := id numbered
    obtain ⟨c, flags, rfl⟩ := List.length_eq_two.mp (show b.length = 2 from whole)
    rw [bodySent_numbered s numbered]
    rfl
  · by_cases polled : Polled s k l b
    · obtain ⟨-, rfl, -, -⟩ := id polled
      obtain _ | ⟨y, _ | ⟨seq, d⟩⟩ := b
      · simp at whole
      · simp at whole
      · rw [bodySent_polled polled, List.length_cons, List.length_cons, pollAnswer_length, whole]
        rfl
    · by_cases positioned : Positioned s k l b
      · rw [bodySent_positioned positioned, List.length_set]
      · rw [bodySent_repeated numbered polled positioned]

/-- A body that nothing is planned for leaves as it came. -/
theorem bodySent_of_repeated {s : State} {k : Byte} {l : BitVec 16} {b : List Byte} (plan : PlanAt s k l b .repeated) :
    bodySent s k l b = b := by
  cases plan with
  | repeated numbered polled positioned => exact bodySent_repeated numbered polled positioned

/-- The first body byte leaves as it came, but in an ENUMERATE. -/
theorem bodySent_head {s : State} {k : Byte} {l : BitVec 16} {x : Byte} {rest : List Byte} (numbered : ¬ Numbered k l)
    (whole : (x :: rest).length = l.toNat) : (bodySent s k l (x :: rest))[0]? = some x := by
  by_cases polled : Polled s k l (x :: rest)
  · obtain ⟨-, rfl, -, -⟩ := id polled
    obtain _ | ⟨seq, d⟩ := rest
    · simp at whole
    · rw [bodySent_polled polled]
      rfl
  · by_cases positioned : Positioned s k l (x :: rest)
    · obtain ⟨-, -, -, -, some, -⟩ := id positioned
      rw [bodySent_positioned positioned, List.getElem?_set, if_neg (by omega)]
      rfl
    · rw [bodySent_repeated numbered polled positioned]
      rfl

/-- The body byte at a position is sent as the plan has it there. -/
theorem bodySent_getElem? {s u : State} {k : Byte} {l : BitVec 16} {d : List Byte} (x : Byte) (rest : List Byte)
    (whole : (d ++ x :: rest).length = l.toNat) (body : u.ring.body = d) (health : healthByte u = healthByte s)
    (plan : PlanAt s k l d u.ring.plan) :
    (bodySent s k l (d ++ x :: rest))[d.length]? = some (bodyByteOut u d.length x) := by
  generalize h : u.ring.plan = p at plan
  cases plan
  case numbered numbered =>
    obtain ⟨-, rfl⟩ := id numbered
    obtain ⟨c, flags, same⟩ := List.length_eq_two.mp (show (d ++ x :: rest).length = 2 from whole)
    rw [same, bodySent_numbered s numbered]
    obtain _ | ⟨y, d⟩ := d
    · obtain ⟨rfl, -⟩ : x = c ∧ rest = [flags] := by simpa using same
      simp [bodyByteOut, h]
    · obtain _ | ⟨z, d⟩ := d
      · obtain ⟨rfl, rfl, -⟩ : y = c ∧ x = flags ∧ rest = [] := by simpa using same
        simp [bodyByteOut, h, body]
      · have long := congrArg List.length same
        simp at long
  case matched y polled =>
    rw [List.singleton_append, bodySent_polled ((polled_cons_iff s k l y _ []).mpr polled)]
    simp [bodyByteOut, h]
  case answered y seq d polled =>
    obtain ⟨-, rfl, -, -⟩ := id polled
    rw [List.cons_append, List.cons_append, bodySent_polled ((polled_cons_iff s k _ y _ (seq :: d)).mpr polled)]
    have inside : d.length < (pollAnswer s seq).length := by
      rw [pollAnswer_length]
      simp at whole
      omega
    simp [bodyByteOut, h, inside]
  case positioned positioned =>
    obtain _ | ⟨y, d⟩ := d
    · exact absurd positioned.2.1 (by simp)
    · have sent : bodyByteOut u (y :: d).length x =
          if (y :: d).length = s.ring.address.toNat then healthByte s else x := by
        simp only [bodyByteOut, h, health]
      rw [bodySent_positioned (by rwa [List.cons_append, positioned_cons_iff s k l y _ d]), List.getElem?_set, sent]
      by_cases here : s.ring.address.toNat = (y :: d).length
      · rw [if_pos here, if_pos (by rw [here]; simp), if_pos here.symm]
      · rw [if_neg here, if_neg (Ne.symm here)]
        simp
  case repeated numbered polled positioned =>
    rw [show bodyByteOut u d.length x = x by simp only [bodyByteOut, h]]
    obtain _ | ⟨y, d⟩ := d
    · exact bodySent_head numbered whole
    · rw [List.cons_append, bodySent_repeated numbered (by rwa [polled_cons_iff s k l y _ d])
        (by rwa [positioned_cons_iff s k l y _ d])]
      simp

end Sys2Proof.Machine
end

section
/-! PROOF. The reception of a frame: the receiver after each of its characters, and after a whole frame. -/

namespace Sys2Proof.Machine

/-! ### A node in whose transit a frame is (R176, R177, R180) -/

/-- In `u` a frame that the node awaited in `s` is in transit, and RING OUT has sent the characters `sent`. -/
structure InTransit (s : State) (sent : List Byte) (u : State) : Prop where
  hears : ringConnected s = true
  ring_only : u = { s with ring := u.ring }
  address : u.ring.address = s.ring.address
  supplyOk : u.ring.supplyOk = s.ring.supplyOk
  resetnHigh : u.ring.resetnHigh = s.ring.resetnHigh
  bypass : u.ring.bypass = s.ring.bypass
  seen : u.ring.markSeen = true
  rx : u.ring.rx = .frame
  out : u.ring.out = masked s.ring.holdLeft (sent.map .char)
  holdLeft : u.ring.holdLeft = s.ring.holdLeft - lineBits (sent.map .char)

/-- What RING OUT has sent, and the hold that is left, after one more character. -/
theorem masked_sent (h : Nat) (sent : List Byte) (x : LineSym) :
    masked h (sent.map .char) ++ afterHold (h - lineBits (sent.map .char)) x = masked h (sent.map .char ++ [x]) := by
  rw [masked_append, masked_cons, masked_nil, List.append_nil]

theorem lineBits_sent (h : Nat) (sent : List Byte) (x : LineSym) :
    h - lineBits (sent.map .char) - symBits x = h - lineBits (sent.map .char ++ [x]) := by
  rw [lineBits_append, lineBits_cons, lineBits, Nat.add_zero, Nat.sub_sub]

namespace InTransit

variable {s u : State} {sent : List Byte} (h : InTransit s sent u)
include h

/-- One more character is sent, whatever the receiver notes of it. -/
theorem sends (b : Byte) (n : Nat) (k : Byte) (l : BitVec 16) (d : List Byte) (high : Byte) (crc crc' : BitVec 16) (p : Plan) :
    InTransit s (sent ++ [b]) (send (.char b) { u with ring := { u.ring with
      byteCount := n, kind := k, length := l, body := d, crcHigh := high, crcIn := crc, crcOut := crc', plan := p } }) where
  hears := h.hears
  ring_only := by
    rw [h.ring_only]
    rfl
  address := h.address
  supplyOk := h.supplyOk
  resetnHigh := h.resetnHigh
  bypass := h.bypass
  seen := h.seen
  rx := h.rx
  out := by simp only [send, h.out, h.holdLeft, masked_sent, List.map_append, List.map_cons, List.map_nil]
  holdLeft := by simp only [send, h.holdLeft, lineBits_sent, List.map_append, List.map_cons, List.map_nil]

theorem connected : ringConnected u = true := by
  have same : ringConnected u = ringConnected s := by simp only [ringConnected, h.bypass]
  rw [same]
  exact h.hears

/-- The next character is the next byte of the frame. -/
theorem receive (b : Byte) (rest : List Byte) : receive (b :: rest) u = Machine.receive rest (frameByte b u) := by
  have seen : { u with ring := { u.ring with markSeen := true } } = u := by rw [← h.seen]
  rw [receive_cons, receiveChar_frame h.connected h.rx, seen]

/-- The block's own part of the state is the node's before the frame. -/
theorem command : u.command = s.command := by rw [h.ring_only]

theorem healthByte : Machine.healthByte u = Machine.healthByte s := by
  rw [h.ring_only]
  rfl

end InTransit

/-- The receiver as the first character of a frame comes (R176). -/
def entered (s : State) : State :=
  enterFrame { clearOut s with ring := { (clearOut s).ring with markSeen := true } }

theorem inTransit_entered {s : State} (awaits : AwaitsFrame s) : InTransit s [] (entered s) where
  hears := awaits.1
  ring_only := rfl
  address := rfl
  supplyOk := rfl
  resetnHigh := rfl
  bypass := rfl
  seen := rfl
  rx := rfl
  out := (masked_nil _).symm
  holdLeft := rfl

theorem receive_awaited {s : State} (awaits : AwaitsFrame s) (b : Byte) (rest : List Byte) :
    receive (b :: rest) (clearOut s) = receive rest (frameByte b (entered s)) := by
  rw [receive_cons, receiveChar_leadIn (s := clearOut s) awaits.1 awaits.2]
  rfl

/-! ### The header (R177, R178) -/

/-- The KIND byte has come. -/
theorem kind_taken {s : State} (awaits : AwaitsFrame s) (k : Byte) :
    let u := frameByte k (entered s)
    InTransit s [k] u ∧ u.ring.byteCount = 1 ∧ u.ring.kind = k ∧ u.ring.body = []
      ∧ u.ring.crcIn = crcOf [k] ∧ u.ring.crcOut = crcOf [k] ∧ u.ring.plan = .repeated := by
  rw [frameByte_kind rfl]
  exact ⟨(inTransit_entered awaits).sends k _ _ _ _ _ _ _ _, rfl, rfl, rfl, rfl, rfl, rfl⟩

/-- The high byte of LENGTH has come. -/
theorem lengthHigh_taken {s : State} (awaits : AwaitsFrame s) (k high : Byte) :
    let u := frameByte high (frameByte k (entered s))
    InTransit s [k, high] u ∧ u.ring.byteCount = 2 ∧ u.ring.kind = k ∧ u.ring.length = wordOf high 0 ∧ u.ring.body = []
      ∧ u.ring.crcIn = crcOf [k, high] ∧ u.ring.crcOut = crcOf [k, high] ∧ u.ring.plan = .repeated := by
  obtain ⟨transit, count, kind, body, crcIn, crcOut, plan⟩ := kind_taken awaits k
  rw [frameByte_lengthHigh count]
  refine ⟨transit.sends high _ _ _ _ _ _ _ _, rfl, kind, rfl, body, ?_, ?_, plan⟩
  · simp only [send, crcIn]
    rfl
  · simp only [send, crcOut]
    rfl

/-- In `u` the header and the body bytes `d` of a frame have come, and in their place the body bytes `out` were sent. -/
structure Taking (s : State) (k : Byte) (l : BitVec 16) (d out : List Byte) (u : State) : Prop where
  transit : InTransit s (k :: (wordBytes l ++ out)) u
  byteCount : u.ring.byteCount = 3 + d.length
  kind : u.ring.kind = k
  length : u.ring.length = l
  body : u.ring.body = d
  crcIn : u.ring.crcIn = goodCrc k l d
  crcOut : u.ring.crcOut = goodCrc k l out
  plan : PlanAt s k l d u.ring.plan

/-- The header has come. -/
theorem header_taken {s : State} (awaits : AwaitsFrame s) (k : Byte) (l : BitVec 16) :
    Taking s k l [] [] (frameByte (lowByte l) (frameByte (highByte l) (frameByte k (entered s)))) := by
  obtain ⟨transit, count, kind, length, body, crcIn, crcOut, plan⟩ := lengthHigh_taken awaits k (highByte l)
  have word : wordOf (highByte (wordOf (highByte l) 0)) (lowByte l) = l := by
    rw [highByte_wordOf, wordOf_highByte_lowByte]
  have sent : k :: (wordBytes l ++ []) = [k, highByte l] ++ [lowByte l] := rfl
  have crc : goodCrc k l [] = crcByte (crcOf [k, highByte l]) (lowByte l) := by
    rw [goodCrc, sent, crcOf_append]
  rw [frameByte_lengthLow count, length, word, kind]
  refine ⟨?_, rfl, kind, rfl, body, ?_, ?_, planAt_nil s k l⟩
  · rw [sent]
    exact transit.sends (lowByte l) _ _ _ _ _ _ _ _
  · rw [crc, ← crcIn]
    rfl
  · rw [crc, ← crcOut]
    rfl

/-! ### The body (R177, R178, R181) -/

/-- A body byte comes. -/
theorem Taking.next {s u : State} {k : Byte} {l : BitVec 16} {d out : List Byte} (h : Taking s k l d out u) (x : Byte)
    (inside : d.length < l.toNat) : Taking s k l (d ++ [x]) (out ++ [bodyByteOut u d.length x]) (frameByte x u) := by
  have crc (e : List Byte) (y : Byte) : goodCrc k l (e ++ [y]) = crcByte (goodCrc k l e) y := by
    rw [goodCrc, goodCrc, ← crcOf_append, List.cons_append, List.append_assoc]
  rw [frameByte_body d.length h.byteCount (by rwa [h.length])]
  refine ⟨?_, ?_, h.kind, h.length, ?_, ?_, ?_, ?_⟩
  · have sent : k :: (wordBytes l ++ (out ++ [bodyByteOut u d.length x]))
        = k :: (wordBytes l ++ out) ++ [bodyByteOut u d.length x] := by simp
    rw [sent]
    exact h.transit.sends _ _ _ _ _ _ _ _ _
  · simp only [send, List.length_append, List.length_singleton]
    omega
  · simp only [send, h.body]
  · simp only [send, h.crcIn, crc]
  · simp only [send, h.crcOut, crc]
  · exact planAfterBody_planAt h.kind h.length h.transit.address h.transit.command h.plan x

/-- The body of a whole frame comes: up to each of its bytes the body sent is a beginning of `bodySent`. -/
theorem Taking.beginning {s u : State} {k : Byte} {l : BitVec 16} {d : List Byte} (rest more : List Byte)
    (whole : (d ++ (rest ++ more)).length = l.toNat)
    (h : Taking s k l d ((bodySent s k l (d ++ (rest ++ more))).take d.length) u) :
    Taking s k l (d ++ rest) ((bodySent s k l (d ++ (rest ++ more))).take (d ++ rest).length) (receive rest u) := by
  induction rest generalizing d u with
  | nil => simpa [receive_nil] using h
  | cons x rest ih =>
    have sent := bodySent_getElem? x (rest ++ more) whole h.body h.transit.healthByte h.plan
    have inside : d.length < l.toNat := by
      rw [← whole]
      simp
    have moved : d ++ (x :: rest ++ more) = d ++ [x] ++ (rest ++ more) := by simp
    have next := h.next x inside
    have longer : (bodySent s k l (d ++ (x :: rest ++ more))).take (d ++ [x]).length
        = (bodySent s k l (d ++ (x :: rest ++ more))).take d.length ++ [bodyByteOut u d.length x] := by
      rw [List.length_append, List.length_singleton, List.take_add_one, List.cons_append, sent]
      rfl
    rw [← longer, moved] at next
    rw [h.transit.receive, show d ++ x :: rest = d ++ [x] ++ rest by simp, moved]
    exact ih (by rw [← moved]; exact whole) next

/-- A beginning of a whole frame up to within its body. -/
theorem taking_beginning {s : State} (awaits : AwaitsFrame s) (k : Byte) (l : BitVec 16) (d more : List Byte)
    (whole : (d ++ more).length = l.toNat) :
    Taking s k l d ((bodySent s k l (d ++ more)).take d.length) (receive (k :: (wordBytes l ++ d)) (clearOut s)) := by
  have header := header_taken awaits k l
  rw [show wordBytes l ++ d = highByte l :: lowByte l :: d from rfl, receive_awaited awaits,
    (kind_taken awaits k).1.receive, (lengthHigh_taken awaits k _).1.receive]
  exact Taking.beginning (d := []) d more whole header

/-! ### The CRC bytes and the end of the frame (R177, R179, R182) -/

theorem highByte_xor (x y : BitVec 16) : highByte (x ^^^ y) = highByte x ^^^ highByte y := by
  ext i hi
  simp [highByte]

theorem lowByte_xor (x y : BitVec 16) : lowByte (x ^^^ y) = lowByte x ^^^ lowByte y := by
  ext i hi
  simp [lowByte]

/-- With nothing substituted the CRC carried is the one received. -/
theorem carriedCrc_self (k : Byte) (l : BitVec 16) (b : List Byte) (crc : BitVec 16) : carriedCrc k l b b crc = crc := by
  rw [carriedCrc, BitVec.xor_assoc, BitVec.xor_self, BitVec.xor_zero]

/-- A CRC byte leaves as that byte of the CRC that carries the error pattern. -/
theorem crcByteOut_carried {s u : State} {k : Byte} {l : BitVec 16} {b : List Byte}
    (h : Taking s k l b (bodySent s k l b) u) (crc : BitVec 16) {byte : BitVec 16 → Byte}
    (additive : ∀ x y, byte (x ^^^ y) = byte x ^^^ byte y) :
    crcByteOut u.ring.plan (byte crc) (byte (goodCrc k l b)) (byte (goodCrc k l (bodySent s k l b)))
      = byte (carriedCrc k l b (bodySent s k l b) crc) := by
  have plan := h.plan
  generalize u.ring.plan = p at plan
  cases p with
  | repeated => rw [bodySent_of_repeated plan, carriedCrc_self]; rfl
  | enumerate | pollMatched | pollAnswer | health => simp only [carriedCrc, additive, crcByteOut]

/-- The high byte of the CRC comes. -/
theorem crcHigh_taken {s u : State} {k : Byte} {l : BitVec 16} {b : List Byte} (h : Taking s k l b (bodySent s k l b) u)
    (whole : b.length = l.toNat) (crc : BitVec 16) :
    let v := frameByte (highByte crc) u
    InTransit s (k :: (wordBytes l ++ bodySent s k l b ++ [highByte (carriedCrc k l b (bodySent s k l b) crc)])) v
      ∧ v.ring.byteCount = 4 + l.toNat ∧ v.ring.kind = k ∧ v.ring.length = l ∧ v.ring.body = b
      ∧ v.ring.crcHigh = highByte crc ∧ v.ring.crcIn = goodCrc k l b ∧ v.ring.crcOut = goodCrc k l (bodySent s k l b)
      ∧ v.ring.plan = u.ring.plan := by
  have sent := crcByteOut_carried h crc highByte_xor
  rw [frameByte_crcHigh (by rw [h.byteCount, h.length, whole]), h.crcIn, h.crcOut, sent]
  refine ⟨?_, ?_, h.kind, h.length, h.body, rfl, h.crcIn, h.crcOut, rfl⟩
  · exact h.transit.sends _ _ _ _ _ _ _ _ _
  · simp only [send, h.length]

/-- The low byte of the CRC comes: a frame of LENGTH at most 256 ends, an over-length one goes on. -/
theorem crcLow_taken {s u : State} {k : Byte} {l : BitVec 16} {b : List Byte} (h : Taking s k l b (bodySent s k l b) u)
    (whole : b.length = l.toNat) (crc : BitVec 16) :
    ∃ v, InTransit s (k :: (wordBytes l ++ bodySent s k l b ++ wordBytes (carriedCrc k l b (bodySent s k l b) crc))) v
      ∧ v.ring.kind = k ∧ v.ring.length = l ∧ v.ring.body = b ∧ v.ring.crcHigh = highByte crc
      ∧ v.ring.crcIn = goodCrc k l b ∧ v.ring.plan = u.ring.plan ∧ v.ring.byteCount = 5 + l.toNat
      ∧ frameByte (lowByte crc) (frameByte (highByte crc) u) = if l.toNat ≤ 256 then frameEnd (lowByte crc) v else v := by
  obtain ⟨transit, count, kind, length, body, crcHigh, crcIn, crcOut, plan⟩ := crcHigh_taken h whole crc
  have sent := crcByteOut_carried h crc lowByte_xor
  have all : k :: (wordBytes l ++ bodySent s k l b ++ wordBytes (carriedCrc k l b (bodySent s k l b) crc))
      = k :: (wordBytes l ++ bodySent s k l b ++ [highByte (carriedCrc k l b (bodySent s k l b) crc)])
        ++ [lowByte (carriedCrc k l b (bodySent s k l b) crc)] := by simp [wordBytes]
  rw [← plan, ← crcIn, ← crcOut] at sent
  rw [frameByte_crcLow (by rw [count, length]), sent, all, length]
  exact ⟨_, transit.sends _ _ _ _ _ _ _ _ _, kind, length, body, crcHigh, crcIn, plan, rfl, rfl⟩

/-! ### What a frame row comes to -/

/-- Of the ring interface `r` the frame in transit alone is not that of `s`, and RING OUT sent `x`, but for what the hold of the
bypass switch masks (R189). -/
structure Passed (s : State) (x : List LineSym) (r : Ring) : Prop where
  address : r.address = s.ring.address
  supplyOk : r.supplyOk = s.ring.supplyOk
  resetnHigh : r.resetnHigh = s.ring.resetnHigh
  bypass : r.bypass = s.ring.bypass
  out : r.out = masked s.ring.holdLeft x
  holdLeft : r.holdLeft = s.ring.holdLeft - lineBits x

theorem Passed.onlyTransit {s : State} {x : List LineSym} {r : Ring} (h : Passed s x r) : OnlyTransit s { s with ring := r } :=
  ⟨rfl, h.address, h.supplyOk, h.resetnHigh, h.bypass⟩

theorem InTransit.passed {s u : State} {sent : List Byte} (h : InTransit s sent u) : Passed s (sent.map .char) u.ring :=
  ⟨h.address, h.supplyOk, h.resetnHigh, h.bypass, h.out, h.holdLeft⟩

/-- The frame that RING OUT sends in place of a frame received. -/
def frameSent (s : State) (k : Byte) (l : BitVec 16) (b : List Byte) (crc : BitVec 16) : List LineSym :=
  frameOut k l (bodySent s k l b) (carriedCrc k l b (bodySent s k l b) crc)

theorem frameRow_eq {s : State} (awaits : AwaitsFrame s) (k : Byte) {l : BitVec 16} {b : List Byte}
    (whole : b.length = l.toNat) (crc : BitVec 16) :
    frameRow k l b crc s
      = frameByte (lowByte crc) (frameByte (highByte crc) (receive (k :: (wordBytes l ++ b)) (clearOut s))) := by
  have body := taking_beginning awaits k l b [] (by simpa using whole)
  rw [List.append_nil, ← bodySent_length s k whole, List.take_length] at body
  rw [frameRow, frameChars, ← List.cons_append, receive_append, wordBytes, body.transit.receive,
    (crcHigh_taken body whole crc).1.receive, receive_nil]

/-- A whole frame is handed on where its CRC is good, and has no effect where it is not; in either case RING OUT sent it with the
bytes substituted and the error pattern carried (R177, R179, R181, R182). -/
theorem frameRow_whole {s : State} (awaits : AwaitsFrame s) (k : Byte) {l : BitVec 16} {b : List Byte} (whole : Whole l b)
    (crc : BitVec 16) :
    ∃ r, Passed s (frameSent s k l b crc) r ∧ r.rx = .hunt ∧ frameRow k l b crc s =
      if crc = goodCrc k l b then handOn k l b { s with ring := r } else { s with ring := r } := by
  obtain ⟨short, whole⟩ := whole
  have body := taking_beginning awaits k l b [] (by simpa using whole)
  rw [List.append_nil, ← bodySent_length s k whole, List.take_length] at body
  obtain ⟨v, transit, kind, length, held, high, crcIn, -, -, ends⟩ := crcLow_taken body whole crc
  rw [if_pos short] at ends
  refine ⟨{ v.ring with rx := .hunt },
    ⟨transit.address, transit.supplyOk, transit.resetnHigh, transit.bypass, transit.out, transit.holdLeft⟩, rfl, ?_⟩
  have frame : { v with ring := { v.ring with rx := .hunt } } = { s with ring := { v.ring with rx := .hunt } } := by
    rw [transit.ring_only]
  rw [frameRow_eq awaits k whole, ends]
  by_cases good : crc = goodCrc k l b
  · rw [if_pos good, frameEnd_good _ (by rw [high, wordOf_highByte_lowByte, crcIn, good]) (by rw [length]; exact short), frame,
      kind, length, held]
  · rw [if_neg good, frameEnd_bad _ (by rw [high, wordOf_highByte_lowByte, crcIn]; exact good), frame]

/-! ### Frames of LENGTH above 256 (R177, R193) -/

/-- In an over-length frame every byte after the header is sent as it comes, past the CRC bytes too. -/
theorem overLength_next {s u : State} {sent : List Byte} (h : InTransit s sent u) (long : 256 < u.ring.length.toNat)
    (count : 3 ≤ u.ring.byteCount) (plan : u.ring.plan = .repeated) (x : Byte) :
    let v := frameByte x u
    InTransit s (sent ++ [x]) v ∧ v.ring.length = u.ring.length ∧ 3 ≤ v.ring.byteCount ∧ v.ring.plan = .repeated := by
  rcases lt_trichotomy u.ring.byteCount (3 + u.ring.length.toNat) with inside | here | after
  · obtain ⟨j, place⟩ := Nat.exists_eq_add_of_le count
    have byte : bodyByteOut u j x = x := by simp only [bodyByteOut, plan]
    have planned : planAfterBody u j x = .repeated := by
      have not_polled : u.ring.length ≠ 26 := by
        intro short
        rw [short] at long
        exact absurd long (by decide)
      unfold planAfterBody
      dsimp only
      rw [plan]
      by_cases first : j = 0
      · rw [if_pos first, if_neg fun ⟨_, short, _⟩ => not_polled short, if_neg fun ⟨_, _, _, _, _⟩ => by omega]
      · rw [if_neg first, if_neg (by simp)]
    rw [frameByte_body j place (by omega), byte, planned]
    exact ⟨h.sends _ _ _ _ _ _ _ _ _, rfl, by simp only [send]; omega, rfl⟩
  · rw [frameByte_crcHigh here, plan]
    exact ⟨h.sends _ _ _ _ _ _ _ _ _, rfl, by simp only [send]; omega, plan⟩
  · by_cases last : u.ring.byteCount = 4 + u.ring.length.toNat
    · rw [frameByte_crcLow last, plan]
      dsimp only
      rw [if_neg (by omega)]
      exact ⟨h.sends _ _ _ _ _ _ _ _ _, rfl, by simp only [send]; omega, plan⟩
    · have beyond : frameByte x u = send (.char x) { u with ring := { u.ring with byteCount := u.ring.byteCount + 1 } } := by
        unfold frameByte
        dsimp only
        rw [if_neg (by omega), if_neg (by omega), if_neg (by omega), if_neg (by omega), if_neg (by omega), if_neg last]
      rw [beyond]
      exact ⟨h.sends _ _ _ _ _ _ _ _ _, rfl, by simp only [send]; omega, plan⟩

theorem overLength_receive {s u : State} {sent : List Byte} (more : List Byte) (h : InTransit s sent u)
    (long : 256 < u.ring.length.toNat) (count : 3 ≤ u.ring.byteCount) (plan : u.ring.plan = .repeated) :
    InTransit s (sent ++ more) (receive more u) := by
  induction more generalizing sent u with
  | nil => simpa [receive_nil] using h
  | cons x more ih =>
    obtain ⟨transit, length, counted, planned⟩ := overLength_next h long count plan x
    rw [h.receive, show sent ++ x :: more = sent ++ [x] ++ more by simp]
    exact ih transit (by rw [length]; exact long) counted planned

/-- An over-length frame, however much of it has come, is in transit and leaves as it came. -/
theorem overLength_inTransit {s : State} (awaits : AwaitsFrame s) (k : Byte) {l : BitVec 16} (long : 256 < l.toNat)
    (more : List Byte) :
    InTransit s (k :: (wordBytes l ++ more)) (receive (k :: (wordBytes l ++ more)) (clearOut s)) := by
  have header := header_taken awaits k l
  have plan : (frameByte (lowByte l) (frameByte (highByte l) (frameByte k (entered s)))).ring.plan = .repeated := by
    have plan := header.plan
    generalize (frameByte (lowByte l) (frameByte (highByte l) (frameByte k (entered s)))).ring.plan = p at plan
    cases plan with
    | repeated => rfl
    | numbered h =>
      rw [h.2] at long
      exact absurd long (by decide)
    | positioned h => exact absurd h.2.1 (by simp)
  rw [show wordBytes l ++ more = highByte l :: lowByte l :: more from rfl, receive_awaited awaits,
    (kind_taken awaits k).1.receive, (lengthHigh_taken awaits k _).1.receive]
  exact overLength_receive more header.transit (by rw [header.length]; exact long) (by rw [header.byteCount]; simp) plan

/-- A frame of LENGTH above 256 has no effect and is repeated as received. -/
theorem frameRow_overLength {s : State} (awaits : AwaitsFrame s) (k : Byte) {l : BitVec 16} (long : 256 < l.toNat)
    (b : List Byte) (crc : BitVec 16) :
    ∃ r, Passed s (frameOut k l b crc) r ∧ frameRow k l b crc s = { s with ring := r } := by
  have transit := overLength_inTransit awaits k long (b ++ wordBytes crc)
  rw [← List.append_assoc] at transit
  exact ⟨_, transit.passed, transit.ring_only⟩

end Sys2Proof.Machine
end

section
/-! PROOF. What the ring interface does with frames and line events (O10, O12 to O15, O18, O19, O21). -/

namespace Sys2Proof.Machine

/-! ### Frames with nothing substituted, and frames handed on to no block -/

theorem bodySent_of_kind (s : State) {k : Byte} (not_poll : k ≠ 3) (not_enumerate : k ≠ 4) (not_health : k ≠ 6)
    (l : BitVec 16) (b : List Byte) : bodySent s k l b = b :=
  bodySent_repeated (fun h => not_enumerate h.1) (fun h => not_poll h.1) (fun h => not_health h.1)

theorem frameSent_self {s : State} {k : Byte} {l : BitVec 16} {b : List Byte} (same : bodySent s k l b = b) (crc : BitVec 16) :
    frameSent s k l b crc = frameOut k l b crc := by
  rw [frameSent, same, carriedCrc_self]

theorem handOn_of_kind {k : Byte} (h : k = 0 ∨ k = 3 ∨ k = 6 ∨ 7 ≤ k.toNat) (l : BitVec 16) (b : List Byte) (s : State) :
    handOn k l b s = s := by
  have other : k ≠ 1 ∧ k ≠ 2 ∧ k ≠ 4 ∧ k ≠ 5 := by
    rcases h with rfl | rfl | rfl | h
    · decide
    · decide
    · decide
    · refine ⟨?_, ?_, ?_, ?_⟩ <;> (rintro rfl; exact absurd h (by decide))
  obtain ⟨not_level, not_command, not_enumerate, not_sync⟩ := other
  rw [handOn, if_neg not_level, if_neg not_command, if_neg not_enumerate, if_neg not_sync]

/-! ### The ring interface after an accepted frame -/

theorem levelBody_ring (l : BitVec 16) (b : List Byte) (s : State) : (levelBody l b s).ring = s.ring := by
  unfold levelBody
  repeat' split
  · exact arrival_ring _ _ s
  all_goals rfl

theorem commandBody_ring (l : BitVec 16) (b : List Byte) (s : State) : (commandBody l b s).ring = s.ring := by
  unfold commandBody
  repeat' split
  · exact takeCommand_ring _ _ _ s
  all_goals rfl

theorem syncBody_ring (l : BitVec 16) (b : List Byte) (s : State) : (syncBody l b s).ring = s.ring := by
  unfold syncBody
  repeat' split
  · exact commit_ring s
  all_goals rfl

/-- An accepted frame changes of the ring interface at most the node address (R184). -/
theorem handOn_ring (k : Byte) (l : BitVec 16) (b : List Byte) (s : State) :
    (handOn k l b s).ring = { s.ring with address := (handOn k l b s).ring.address } := by
  unfold handOn
  split
  · rw [levelBody_ring]
  · split
    · rw [commandBody_ring]
    · split
      · unfold enumerateBody
        repeat' split
        all_goals rfl
      · split
        · rw [syncBody_ring]
        · rfl

/-! ### A frame cut short (R177) -/

/-- Of a list split in two, the first part ends within the list's own first part, or the second within its own second. -/
theorem append_beginning {α : Type} {d rest b e : List α} (split : d ++ rest = b ++ e) :
    (∃ more, b = d ++ more ∧ rest = more ++ e) ∨ ∃ more, d = b ++ more ∧ e = more ++ rest :=
  List.append_eq_append_iff.mp split

theorem bodySent_overLength (s : State) (k : Byte) {l : BitVec 16} (long : 256 < l.toNat) (b : List Byte) :
    bodySent s k l b = b := by
  refine bodySent_repeated ?_ ?_ ?_
  · rintro ⟨-, rfl⟩
    exact absurd long (by decide)
  · rintro ⟨-, rfl, -⟩
    exact absurd long (by decide)
  · rintro ⟨-, -, small, length, -⟩
    omega

/-- A proper beginning of a whole frame that is past its header. -/
theorem beginning_inTransit {s : State} (awaits : AwaitsFrame s) (k : Byte) {l : BitVec 16} {b d rest : List Byte}
    {crc : BitVec 16} (whole : b.length = l.toNat) (proper : rest ≠ []) (split : d ++ rest = b ++ wordBytes crc) :
    InTransit s (k :: (wordBytes l ++ (bodySent s k l b ++ wordBytes (carriedCrc k l b (bodySent s k l b) crc)).take d.length))
      (receive (k :: (wordBytes l ++ d)) (clearOut s)) := by
  have length := bodySent_length s k whole
  rcases append_beginning split with ⟨more, rfl, rfl⟩ | ⟨more, rfl, crc_bytes⟩
  · have body := taking_beginning awaits k l d more whole
    rw [List.take_append_of_le_length (by rw [length]; simp)]
    exact body.transit
  · obtain _ | ⟨high, _ | ⟨low, more⟩⟩ := more
    · have body := taking_beginning awaits k l b [] (by simpa using whole)
      rw [List.append_nil] at body ⊢
      rw [List.take_append_of_le_length (by rw [length])]
      exact body.transit
    · obtain rfl : high = highByte crc := by
        simp only [wordBytes, List.cons_append, List.cons.injEq] at crc_bytes
        exact crc_bytes.1.symm
      have body := taking_beginning awaits k l b [] (by simpa using whole)
      rw [List.append_nil, ← length, List.take_length] at body
      have received := (crcHigh_taken body whole crc).1
      rw [show k :: (wordBytes l ++ (b ++ [highByte crc])) = k :: (wordBytes l ++ b) ++ [highByte crc] by simp, receive_append,
        body.transit.receive, receive_nil, List.length_append, ← length, List.take_length_add_append]
      simpa [wordBytes] using received
    · have long := congrArg List.length crc_bytes
      obtain _ | ⟨_, _⟩ := rest
      · exact (proper rfl).elim
      · simp [wordBytes] at long

/-- The first characters of the header. -/
theorem header_inTransit {s : State} (awaits : AwaitsFrame s) (k high : Byte) :
    InTransit s [k] (receive [k] (clearOut s)) ∧ InTransit s [k, high] (receive [k, high] (clearOut s)) := by
  have kind := (kind_taken awaits k).1
  refine ⟨?_, ?_⟩
  · rw [receive_awaited awaits, receive_nil]
    exact kind
  · rw [receive_awaited awaits, kind.receive, receive_nil]
    exact (lengthHigh_taken awaits k high).1

/-- The beginnings of a frame: within its header, or the header and a beginning of the rest. -/
theorem frame_beginning {chars rest tail : List Byte} {k : Byte} {l : BitVec 16}
    (split : chars ++ rest = k :: (wordBytes l ++ tail)) :
    chars = [] ∨ chars = [k] ∨ chars = [k, highByte l] ∨ ∃ d, chars = k :: (wordBytes l ++ d) ∧ d ++ rest = tail := by
  change chars ++ rest = k :: highByte l :: lowByte l :: tail at split
  obtain _ | ⟨x, _ | ⟨y, _ | ⟨z, d⟩⟩⟩ := chars
  · exact .inl rfl
  · simp only [List.cons_append, List.cons.injEq] at split
    exact .inr (.inl (by rw [split.1]))
  · simp only [List.cons_append, List.cons.injEq] at split
    exact .inr (.inr (.inl (by rw [split.1, split.2.1])))
  · simp only [List.cons_append, List.cons.injEq] at split
    obtain ⟨rfl, rfl, rfl, tails⟩ := split
    exact .inr (.inr (.inr ⟨d, rfl, tails⟩))

/-- Characters that a truncation cuts short: none of a frame have come, or they are in transit, sent as the frame would have
been. -/
theorem CutShort.inTransit {s : State} {chars sent : List Byte} (cut : CutShort s chars sent) (awaits : AwaitsFrame s) :
    chars = [] ∧ sent = [] ∨ chars ≠ [] ∧ InTransit s sent (receive chars (clearOut s)) := by
  rcases cut with ⟨rest, k, l, b, crc, ⟨-, whole⟩, proper, split, same⟩ | ⟨rest, k, l, more, long, split, same⟩
  · rw [List.append_assoc] at split same
    rcases frame_beginning split with rfl | rfl | rfl | ⟨d, rfl, tails⟩
    · exact .inl ⟨rfl, same⟩
    · exact .inr ⟨List.cons_ne_nil _ _, same ▸ (header_inTransit awaits k 0).1⟩
    · exact .inr ⟨List.cons_ne_nil _ _, same ▸ (header_inTransit awaits k _).2⟩
    · exact .inr ⟨List.cons_ne_nil _ _, same ▸ beginning_inTransit awaits k whole proper tails⟩
  · subst same
    rcases frame_beginning split with rfl | rfl | rfl | ⟨d, rfl, -⟩
    · exact .inl ⟨rfl, rfl⟩
    · exact .inr ⟨List.cons_ne_nil _ _, (header_inTransit awaits k 0).1⟩
    · exact .inr ⟨List.cons_ne_nil _ _, (header_inTransit awaits k _).2⟩
    · exact .inr ⟨List.cons_ne_nil _ _, overLength_inTransit awaits k long d⟩

/-! ### Line events after the characters of a frame cut short (R175 to R177) -/

theorem lineBits_concat (x : List LineSym) (y : LineSym) : lineBits (x ++ [y]) = lineBits x + symBits y := by
  rw [lineBits_append, lineBits_cons, lineBits, Nat.add_zero]

/-- A stretch of line is sent after what RING OUT had sent, whatever the receiver notes of it. -/
theorem Passed.sends {s u : State} {x : List LineSym} (h : Passed s x u.ring) (y : LineSym) (seen : Bool) (rx : Receiver) (n : Nat)
    (d : List Byte) (crc crc' : BitVec 16) (p : Plan) :
    Passed s (x ++ [y]) { (send y u).ring with
      markSeen := seen, rx := rx, byteCount := n, body := d, crcIn := crc, crcOut := crc', plan := p } where
  address := h.address
  supplyOk := h.supplyOk
  resetnHigh := h.resetnHigh
  bypass := h.bypass
  out := by simp only [send, h.out, h.holdLeft, masked_append, masked_cons, masked_nil, List.append_nil]
  holdLeft := by simp only [send, h.holdLeft, lineBits_concat, Nat.sub_sub]

/-- What a line event is taken in: a node whose frame in transit is cut short, or that has seen a lead-in and nothing after it. -/
structure Interrupted (s : State) (sent : List Byte) (u : State) : Prop where
  connected : ringConnected u = true
  ring_only : u = { s with ring := u.ring }
  passed : Passed s (sent.map .char) u.ring
  rx : u.ring.rx = .frame ∧ u.ring.markSeen = true ∨ u.ring.rx = .leadIn

theorem CutShort.interrupted {s : State} {chars sent : List Byte} (cut : CutShort s chars sent) (awaits : AwaitsFrame s) :
    Interrupted s sent (receive chars (clearOut s)) := by
  rcases cut.inTransit awaits with ⟨rfl, rfl⟩ | ⟨-, transit⟩
  · exact ⟨awaits.1, rfl, ⟨rfl, rfl, rfl, rfl, (masked_nil _).symm, rfl⟩, .inr awaits.2⟩
  · exact ⟨transit.connected, transit.ring_only, transit.passed, .inl ⟨transit.rx, transit.seen⟩⟩

namespace Interrupted

variable {s u : State} {sent : List Byte} (h : Interrupted s sent u)
include h

/-- The event is sent after the characters, whatever the receiver notes of it. -/
theorem event (x : LineSym) (seen : Bool) (rx : Receiver) (n : Nat) (d : List Byte) (crc crc' : BitVec 16) (p : Plan) :
    let t := { send x u with ring := { (send x u).ring with
      markSeen := seen, rx := rx, byteCount := n, body := d, crcIn := crc, crcOut := crc', plan := p } }
    OnlyTransit s t ∧ t.ring.rx = rx ∧ t.ring.out = masked s.ring.holdLeft (sent.map .char ++ [x]) := by
  have passed := h.passed.sends x seen rx n d crc crc' p
  refine ⟨⟨?_, passed.address, passed.supplyOk, passed.resetnHigh, passed.bypass⟩, rfl, passed.out⟩
  rw [h.ring_only]
  rfl

/-- A run of space long enough leaves the receiver in LEAD-IN. -/
theorem spaceRun {bits : Nat} (long : 30 ≤ bits) (first : Bool) :
    OnlyTransit s (spaceRun bits first u) ∧ (Machine.spaceRun bits first u).ring.rx = .leadIn
      ∧ (Machine.spaceRun bits first u).ring.out = masked s.ring.holdLeft (sent.map .char ++ [.space bits]) := by
  have leads : Machine.spaceRun bits first u = { send (.space bits) u with ring := { (send (.space bits) u).ring with
      markSeen := true, rx := .leadIn } } := by
    unfold Machine.spaceRun
    dsimp only
    rw [if_pos h.connected, decide_eq_true long]
    rcases h.rx with ⟨-, seen⟩ | lead
    · simp [seen]
    · split
      · rfl
      · rw [← lead]
        rfl
  rw [leads]
  exact h.event _ _ _ _ _ _ _ _

/-- Back in mark the frame is in transit. -/
theorem backToMark (x : LineSym) :
    ∃ n d crc crc' p, Machine.backToMark { send x u with ring := { (send x u).ring with markSeen := true } }
      = { send x u with ring := { (send x u).ring with
        markSeen := true, rx := .frame, byteCount := n, body := d, crcIn := crc, crcOut := crc', plan := p } } := by
  unfold Machine.backToMark
  rcases h.rx with ⟨frame, -⟩ | lead
  · rw [if_neg (by simp [send, frame]), ← frame]
    exact ⟨_, _, _, _, _, rfl⟩
  · rw [if_pos (by simp [send, lead])]
    exact ⟨_, _, _, _, _, rfl⟩

/-- A run of mark long enough ends the frame. -/
theorem markRun {bits : Nat} (long : 30 < bits) :
    OnlyTransit s (markRun bits u) ∧ (Machine.markRun bits u).ring.rx = .hunt
      ∧ (Machine.markRun bits u).ring.out = masked s.ring.holdLeft (sent.map .char ++ [.mark bits]) := by
  obtain ⟨n, d, crc, crc', p, back⟩ := h.backToMark (.mark bits)
  unfold Machine.markRun
  dsimp only
  rw [if_pos h.connected, back, if_pos ⟨long, rfl⟩]
  exact h.event _ _ _ _ _ _ _ _

/-- A character in framing error ends the frame. -/
theorem badCharacter (bad : Byte) :
    OnlyTransit s (badCharacter bad u) ∧ (Machine.badCharacter bad u).ring.rx = .hunt
      ∧ (Machine.badCharacter bad u).ring.out = masked s.ring.holdLeft (sent.map .char ++ [.badChar bad]) := by
  obtain ⟨n, d, crc, crc', p, back⟩ := h.backToMark (.badChar bad)
  unfold Machine.badCharacter
  dsimp only
  rw [if_pos h.connected, back]
  exact h.event _ _ _ _ _ _ _ _

end Interrupted

/-- A LEVEL body that fails a check of R62 has no effect. -/
theorem levelBody_refused {s : State} {l : BitVec 16} {b : List Byte}
    (fails : ¬ ∃ (i : StreamId) (n : Byte) (slots : List Byte), b = byteOf i :: n :: slots ∧ 1 ≤ n.toNat ∧ n.toNat ≤ 240
      ∧ l.toNat = 2 + n.toNat ∧ (s.streams.get i).state ≠ .disabled) (r : Ring) :
    levelBody l b { s with ring := r } = { s with ring := r } := by
  unfold levelBody
  split
  · next st n slots =>
    split
    · next i stream =>
      have byte : st = byteOf i := by rw [← below_eq_some stream, byteOf_eq_self]
      exact if_neg fun ⟨one, few, length, _, on⟩ => fails ⟨i, n, slots, by rw [byte], one, few, length, by simpa [enabled] using on⟩
    · rfl
  · rfl

/-! ### A node in HUNT (R176) -/

/-- A run of characters in HUNT is stray. -/
theorem receive_hunt (chars : List Byte) {s : State} (hears : ringConnected s = true) (hunt : s.ring.rx = .hunt) :
    receive chars s = { s with ring := { s.ring with
      markSeen := s.ring.markSeen || !chars.isEmpty
      out := s.ring.out ++ masked s.ring.holdLeft (chars.map .char)
      holdLeft := s.ring.holdLeft - lineBits (chars.map .char) } } := by
  induction chars generalizing s with
  | nil => simp [receive, masked_nil, lineBits]
  | cons b chars ih =>
    rw [receive_cons, receiveChar_hunt hears hunt, ih (by exact hears) (by exact hunt)]
    simp only [send, List.map_cons, masked_cons, lineBits_cons, List.append_assoc, Nat.sub_sub, Bool.true_or, List.isEmpty_cons,
      Bool.not_false, Bool.or_true]

theorem backToMark_hunt {u : State} (x : LineSym) (hunt : u.ring.rx = .hunt) :
    backToMark { send x u with ring := { (send x u).ring with markSeen := true } }
      = { send x u with ring := { (send x u).ring with markSeen := true } } := by
  simp [backToMark, send, hunt]

/-- After characters in HUNT the receiver is in HUNT still. -/
theorem stray_passed (chars : List Byte) {s : State} (hears : ringConnected s = true) (hunt : s.ring.rx = .hunt) :
    let u := receive chars (clearOut s)
    u = { s with ring := u.ring } ∧ Passed s (chars.map .char) u.ring ∧ ringConnected u = true ∧ u.ring.rx = .hunt
      ∧ u.ring.markSeen = (s.ring.markSeen || !chars.isEmpty) := by
  rw [receive_hunt chars (s := clearOut s) hears hunt]
  exact ⟨rfl, ⟨rfl, rfl, rfl, rfl, rfl, rfl⟩, hears, hunt, rfl⟩

/-! ### A bypassed node (R188) -/

/-- A stretch of line after the characters passes a bypassed node. -/
theorem send_bypassed (chars : List Byte) (x : LineSym) {s : State} (bypassed : s.ring.bypass = .engaged) :
    send x (receive chars (clearOut s)) = { s with ring := { s.ring with
      out := masked s.ring.holdLeft (chars.map .char ++ [x])
      holdLeft := s.ring.holdLeft - lineBits (chars.map .char ++ [x]) } } := by
  rw [receive_bypassed chars (clearOut s) bypassed, ← masked_sent, ← lineBits_sent]
  rfl

theorem not_connected_after {s : State} (bypassed : s.ring.bypass = .engaged) (chars : List Byte) :
    ringConnected (receive chars (clearOut s)) = false := by
  rw [receive_bypassed chars (clearOut s) bypassed]
  simp [ringConnected, clearOut, bypassed]

/-! ### The answer to a POLL (R144, R194) -/

/-- Data filled with 0 up to so many bytes. -/
theorem filled_eq {w : Nat} {d : List (BitVec w)} {n : Nat} (short : d.length ≤ n) :
    (List.range n).map (fun i => d.getD i 0) = d ++ List.replicate (n - d.length) 0 := by
  refine List.ext_getElem (by simp; omega) fun i _ _ => ?_
  rw [List.getElem_map, List.getElem_range, List.getElem_append]
  split
  · next inside => simp [inside]
  · next beyond => simp [Nat.le_of_not_lt beyond]

theorem resultCode_eq_number (x : Option ResultCode) : resultCode x = resultNumber x := by
  rcases x with _ | x
  · rfl
  · cases x <;> rfl

/-- With the collections in order the answer is that of the place in which the record is found. -/
theorem pollAnswer_eq_pollArea {s : State} (ok : WindowOk s) (seq : Byte) : pollAnswer s seq = pollArea s.command seq := by
  obtain ⟨-, -, -, running, queued, replied, -⟩ := ok
  simp only [pollAnswer, findRecord, List.find?_append, pollArea]
  cases slot : s.command.running.toList.find? fun r => r.seq == seq with
  | some r =>
    have held : s.command.running = some r := by simpa using List.mem_of_find?_eq_some slot
    simp only [Option.some_or, answerArea, running r held]
    rfl
  | none =>
    cases waits : s.command.queue.find? fun r => r.seq == seq with
    | some r =>
      simp only [Option.none_or, Option.some_or, answerArea, queued r (List.mem_of_find?_eq_some waits)]
      rfl
    | none =>
      cases listed : s.command.replies.find? fun r => r.seq == seq with
      | none => rfl
      | some r =>
        obtain ⟨done | refused, short⟩ := replied r (List.mem_of_find?_eq_some listed)
        · simp only [Option.none_or, answerArea, done, filled_eq short, resultCode_eq_number, if_true, List.append_assoc]
          rfl
        · simp only [Option.none_or, answerArea, refused, filled_eq short, resultCode_eq_number, List.append_assoc]
          rfl

/-! ### The address adopted from an ENUMERATE (R184) -/

/-- The node address after an accepted ENUMERATE. -/
def adopted (l : BitVec 16) (b : List Byte) (old : Byte) : Byte :=
  match b with
  | c :: flags :: _ =>
    if l = 2 ∧ c.toNat ≤ 250 then if c.toNat < 250 ∧ flags &&& 1 = 0 then c + 1 else 0 else old
  | _ => old

theorem enumerateBody_eq (l : BitVec 16) (b : List Byte) (s : State) :
    enumerateBody l b s = { s with ring := { s.ring with address := adopted l b s.ring.address } } := by
  obtain _ | ⟨c, _ | ⟨flags, rest⟩⟩ := b
  · rfl
  · rfl
  · simp only [enumerateBody, adopted]
    split <;> rfl

theorem adopted_of_length {l : BitVec 16} (other : l ≠ 2) (b : List Byte) (old : Byte) : adopted l b old = old := by
  obtain _ | ⟨c, _ | ⟨flags, rest⟩⟩ := b
  · rfl
  · rfl
  · exact if_neg fun h => other h.1

theorem and_one_eq_zero_iff (flags : Byte) : flags &&& 1 = 0 ↔ flags.getLsbD 0 = false := by
  revert flags
  decide

theorem adopted_two {l : BitVec 16} {b : List Byte} {c flags : Byte} (two : l = 2) (body : b = [c, flags]) (old : Byte) :
    adopted l b old =
      if 250 < c.toNat then old else if c.toNat < 250 ∧ flags.getLsbD 0 = false then c + 1 else 0 := by
  rw [body, adopted]
  simp only [two, true_and, and_one_eq_zero_iff]
  by_cases large : 250 < c.toNat
  · rw [if_neg (by omega), if_pos large]
  · rw [if_pos (by omega), if_neg large]

/-! ### The health byte (R187) -/

/-- Each flag of a health byte stands at its bit, from the most significant. -/
theorem weighted_bits (a b c d e f g h : Bool) :
    let byte := weighted a 0x80 ||| weighted b 0x40 ||| weighted c 0x20 ||| weighted d 0x10 ||| weighted e 0x08
      ||| weighted f 0x04 ||| weighted g 0x02 ||| weighted h 0x01
    byte.getLsbD 7 = a ∧ byte.getLsbD 6 = b ∧ byte.getLsbD 5 = c ∧ byte.getLsbD 4 = d ∧ byte.getLsbD 3 = e
      ∧ byte.getLsbD 2 = f ∧ byte.getLsbD 1 = g ∧ byte.getLsbD 0 = h := by
  revert a b c d e f g h
  decide

theorem healthByte_bits (s : State) :
    let h := healthByte s
    (h.getLsbD 7 = true ↔ s.output.switchOn = true) ∧ (h.getLsbD 6 = true ↔ s.output.thermal = .warm)
      ∧ (h.getLsbD 5 = true ↔ s.output.thermal = .hot) ∧ (h.getLsbD 4 = true ↔ ∃ c, (s.output.monitors.get c).latch ≠ none)
      ∧ (h.getLsbD 3 = true ↔ ∃ i, (s.streams.get i).state = .lost) ∧ (h.getLsbD 2 = true ↔ Armed s)
      ∧ (h.getLsbD 1 = true ↔ s.audit.run ≠ none) ∧ (h.getLsbD 0 = true ↔ s.command.queue ≠ []) := by
  obtain ⟨on, warm, hot, fault, lost, armed, audit, busy⟩ := weighted_bits (flagOutputsOn s) (flagWarm s) (flagHot s)
    (flagFault s) (flagLost s) (flagArmed s) (flagAudit s) (flagBusy s)
  simp only [healthByte, on, warm, hot, fault, lost, armed, audit, busy]
  refine ⟨Iff.rfl, ?_, ?_, ?_, ?_, ?_, ?_, ?_⟩
  · simp [flagWarm]
  · simp [flagHot]
  · simp [flagFault, anyLatch, channels, Option.isSome_iff_ne_none]
  · simp [flagLost, anyLost]
  · unfold flagArmed Armed
    cases s.staging.state <;> simp
  · simp [flagAudit, Option.isSome_iff_ne_none]
  · simp [flagBusy]

end Sys2Proof.Machine

open Sys2Proof Sys2Proof.Machine

/-- Settles O10: the CRC byte by byte, and the CRC of a whole frame as sent. -/
theorem crcErrorPatternKept : Obligations.CrcErrorPatternKept := by
  unfold Obligations.CrcErrorPatternKept
  intro shift
  have shifts : crcShift = shift := by
    funext r
    simp only [crcShift, shift, BitVec.msb_eq_getLsbD_last]
  refine ⟨⟨rfl, fun bytes b => ?_⟩, fun c k l b crc s frame awaits whole => ?_⟩
  · have word : wordOf b 0 = b.setWidth 16 <<< 8 := by
      apply BitVec.eq_of_toNat_eq
      rw [wordOf_toNat, BitVec.toNat_shiftLeft, BitVec.toNat_setWidth, Nat.shiftLeft_eq]
      have := b.isLt
      simp
      omega
    rw [crcOf_append, ← word, ← shifts]
    rfl
  · intro sent out
    obtain ⟨r, passed, -, row⟩ := frameRow_whole awaits k whole crc
    have ring : (frameRow k l b crc s).ring = { r with address := (frameRow k l b crc s).ring.address } := by
      rw [row]
      split
      · rw [handOn_ring]
      · rfl
    refine ⟨_, exec_frameOf frame s, ?_, ?_, bodySent_length s k whole.2, ?_, fun same => ?_⟩
    · rw [ring]
      exact passed.out
    · rw [ring]
      exact passed.holdLeft
    · have zero : goodCrc k l sent = goodCrc k l b ^^^ goodCrc k l b ^^^ goodCrc k l sent := by simp
      constructor
      · intro good
        rw [zero] at good
        exact (BitVec.xor_left_inj _).mp ((BitVec.xor_left_inj _).mp good)
      · intro good
        simp only [out, good]
        exact zero.symm
    · simp only [out, same]
      exact carriedCrc_self k l b crc

/-- Settles O12: over-length frames, frames of no known KIND, of bad CRC, and LEVEL frames that fail a check of R62. -/
theorem refusedFramesIgnored : Obligations.RefusedFramesIgnored := by
  intro s awaits
  refine ⟨fun c k l b crc frame length => ⟨fun refused => ?_, fun short bad => ?_⟩, fun l b whole fails => ?_⟩
  · by_cases long : 256 < l.toNat
    · obtain ⟨r, passed, row⟩ := frameRow_overLength awaits k long b crc
      exact ⟨_, exec_frameOf frame s, row ▸ passed.onlyTransit, row ▸ passed.out⟩
    · have unknown : k = 0 ∨ 7 ≤ k.toNat := refused.resolve_left long
      obtain ⟨r, passed, -, row⟩ := frameRow_whole awaits k ⟨Nat.le_of_not_lt long, length⟩ crc
      rw [handOn_of_kind (by tauto), ite_self] at row
      rw [frameSent_self (bodySent_of_kind s (by rintro rfl; revert unknown; decide) (by rintro rfl; revert unknown; decide)
        (by rintro rfl; revert unknown; decide) l b)] at passed
      exact ⟨_, exec_frameOf frame s, row ▸ passed.onlyTransit, row ▸ passed.out⟩
  · obtain ⟨r, passed, hunt, row⟩ := frameRow_whole awaits k ⟨short, length⟩ crc
    rw [if_neg bad] at row
    exact ⟨_, exec_frameOf frame s, row ▸ passed.onlyTransit, row ▸ hunt⟩
  · obtain ⟨r, passed, -, row⟩ := frameRow_whole awaits 1 whole (goodCrc 1 l b)
    rw [if_pos rfl, frameSent_self (bodySent_of_kind s (by decide) (by decide) (by decide) l b)] at *
    rw [show handOn 1 l b { s with ring := r } = levelBody l b { s with ring := r } from rfl, levelBody_refused fails r] at row
    exact ⟨_, exec_frameOf (c := .levelFrame l b _) rfl s, row ▸ passed.onlyTransit, row ▸ passed.out⟩

/-- Settles O13: the events in a node whose frame in transit is cut short. -/
theorem truncatedFramesIgnored : Obligations.TruncatedFramesIgnored := by
  intro s chars sent awaits cut
  have interrupted := cut.interrupted awaits
  exact ⟨fun bits long => ⟨_, rfl, interrupted.spaceRun long _⟩, fun bits long => ⟨_, rfl, interrupted.markRun long⟩,
    fun bad => ⟨_, rfl, interrupted.badCharacter bad⟩⟩

/-- Settles O14: stray characters, then each line event in HUNT. -/
theorem strayCharactersRepeated : Obligations.StrayCharactersRepeated := by
  intro s hears hunt leaves
  refine ⟨fun c k l b crc frame => ?frame, fun chars bits long => ?leadIn, fun chars bits => ?mark, fun chars bad => ?bad⟩
  case frame =>
    obtain ⟨only, passed, -, still, -⟩ := stray_passed (frameChars k l b crc) hears hunt
    exact ⟨_, exec_frameOf frame s, ⟨⟨only, passed.address, passed.supplyOk, passed.resetnHigh, passed.bypass⟩, passed.out,
      passed.holdLeft⟩, still⟩
  all_goals obtain ⟨only, passed, connected, still, seen⟩ := stray_passed chars hears hunt
  case leadIn =>
    generalize taken : receive chars (clearOut s) = u at only passed connected still seen
    have leads : spaceRun bits chars.isEmpty u = { send (.space bits) u with ring := { (send (.space bits) u).ring with
        markSeen := true, rx := if s.ring.markSeen = false ∧ chars = [] then .hunt else .leadIn } } := by
      unfold spaceRun
      dsimp only
      rw [if_pos connected, decide_eq_true long, seen, Bool.true_and, Bool.or_assoc, Bool.or_self]
      by_cases first : s.ring.markSeen = false ∧ chars = []
      · rw [if_pos first, if_neg (by simp [first]), ← still]
        rfl
      · rw [if_neg first, if_pos (by
          rw [Bool.or_eq_true, Bool.not_eq_true', List.isEmpty_eq_false_iff]
          by_contra neither
          exact first ⟨by simpa using fun h => neither (.inl h), by_contra fun h => neither (.inr h)⟩)]
    have sent := passed.sends (.space bits) true (if s.ring.markSeen = false ∧ chars = [] then .hunt else .leadIn)
      u.ring.byteCount u.ring.body u.ring.crcIn u.ring.crcOut u.ring.plan
    have row : exec (.leadIn chars bits) s = .next (spaceRun bits chars.isEmpty u) := by rw [← taken]; rfl
    rw [leads] at row
    refine ⟨_, row, ⟨⟨?_, sent.address, sent.supplyOk, sent.resetnHigh, sent.bypass⟩, sent.out, sent.holdLeft⟩, rfl⟩
    rw [only]
    rfl
  case mark =>
    generalize taken : receive chars (clearOut s) = u at only passed connected still seen
    have hunts : markRun bits u = { send (.mark bits) u with ring := { (send (.mark bits) u).ring with markSeen := true } } := by
      unfold markRun
      dsimp only
      rw [if_pos connected, backToMark_hunt _ still]
      exact if_neg fun h => by rw [show u.ring.rx = .frame from h.2] at still; cases still
    have sent := passed.sends (.mark bits) true u.ring.rx
      u.ring.byteCount u.ring.body u.ring.crcIn u.ring.crcOut u.ring.plan
    have row : exec (.frameBreak chars bits) s = .next (markRun bits u) := by rw [← taken]; rfl
    rw [hunts] at row
    refine ⟨_, row, ⟨⟨?_, sent.address, sent.supplyOk, sent.resetnHigh, sent.bypass⟩, sent.out, sent.holdLeft⟩, still⟩
    rw [only]
    rfl
  case bad =>
    generalize taken : receive chars (clearOut s) = u at only passed connected still seen
    have hunts : badCharacter bad u = { send (.badChar bad) u with ring := { (send (.badChar bad) u).ring with
        markSeen := true, rx := .hunt } } := by
      unfold badCharacter
      dsimp only
      rw [if_pos connected, backToMark_hunt _ still]
    have sent := passed.sends (.badChar bad) true .hunt
      u.ring.byteCount u.ring.body u.ring.crcIn u.ring.crcOut u.ring.plan
    have row : exec (.framingError chars bad) s = .next (badCharacter bad u) := by rw [← taken]; rfl
    rw [hunts] at row
    refine ⟨_, row, ⟨⟨?_, sent.address, sent.supplyOk, sent.resetnHigh, sent.bypass⟩, sent.out, sent.holdLeft⟩, rfl⟩
    rw [only]
    rfl

/-- Settles O15: the direct path of the bypass. -/
theorem bypassedNodeTakesNothing : Obligations.BypassedNodeTakesNothing := by
  refine ⟨fun s => by simp [ringConnected], fun s bypassed => ?_⟩
  refine ⟨fun c k l b crc frame => ?_, fun chars bits => ⟨?_, ?_⟩, fun chars bad => ?_, fun c code seq params named => ?_⟩
  all_goals change exec _ _ = _
  · rw [exec_frameOf frame, frameRow, receive_bypassed _ (clearOut s) bypassed]
    rfl
  · have row : exec (.leadIn chars bits) s = .next (spaceRun bits chars.isEmpty (receive chars (clearOut s))) := rfl
    rw [row, spaceRun, if_neg (by simp [not_connected_after bypassed]), send_bypassed chars _ bypassed]
  · have row : exec (.frameBreak chars bits) s = .next (markRun bits (receive chars (clearOut s))) := rfl
    rw [row, markRun, if_neg (by simp [not_connected_after bypassed]), send_bypassed chars _ bypassed]
  · have row : exec (.framingError chars bad) s = .next (badCharacter bad (receive chars (clearOut s))) := rfl
    rw [row, badCharacter, if_neg (by simp [not_connected_after bypassed]), send_bypassed chars _ bypassed]
  · rw [exec_commandOf named, commandRow_bypassed bypassed]

/-- Settles O18: the answer area of a POLL of this node, and any other POLL repeated. -/
theorem pollAnswered : Obligations.PollAnswered := by
  intro s l b crc awaits ok whole
  obtain ⟨r, passed, -, row⟩ := frameRow_whole awaits 3 whole crc
  rw [handOn_of_kind (by decide), ite_self] at row
  refine ⟨_, exec_frameOf (c := .pollFrame l b crc) rfl s, row ▸ passed.onlyTransit, fun seq area body some_address length => ?_,
    fun other => ?_⟩
  · have polled : Polled s 3 l (s.ring.address :: seq :: area) := by
      refine ⟨rfl, length, fun zero => some_address (BitVec.eq_of_toNat_eq zero), rfl⟩
    have out := passed.out
    rw [frameSent, body, bodySent_polled polled, pollAnswer_eq_pollArea ok] at out
    rw [row, body]
    exact out
  · have same : bodySent s 3 l b = b := by
      refine bodySent_repeated (fun h => absurd h.1 (by decide)) ?_ (fun h => absurd h.1 (by decide))
      rintro ⟨-, length, some_address, head⟩
      rcases other with h | h | h
      · exact h length
      · exact h head
      · exact some_address (by rw [h]; rfl)
    have out := passed.out
    rw [frameSent_self same] at out
    rw [row]
    exact out

/-- Settles O19: the counter and flags sent, and the address adopted. -/
theorem enumerateCountsAndAdopts : Obligations.EnumerateCountsAndAdopts := by
  intro s l b crc awaits whole
  obtain ⟨r, passed, -, row⟩ := frameRow_whole awaits 4 whole crc
  rw [show handOn 4 l b { s with ring := r } = enumerateBody l b { s with ring := r } from rfl, enumerateBody_eq] at row
  obtain ⟨address, adopts, taken⟩ : ∃ address, (address = if crc = goodCrc 4 l b then adopted l b r.address else r.address)
      ∧ frameRow 4 l b crc s = { s with ring := { r with address := address } } := by
    by_cases good : crc = goodCrc 4 l b
    · exact ⟨_, rfl, by rw [row, if_pos good, if_pos good]⟩
    · exact ⟨_, rfl, by rw [row, if_neg good, if_neg good]⟩
  rw [passed.address] at adopts
  have sent := passed.out
  refine ⟨_, exec_frameOf (c := .enumerateFrame l b crc) rfl s, ?_⟩
  rw [taken]
  refine ⟨rfl, ⟨rfl, rfl, passed.supplyOk, passed.resetnHigh, passed.bypass⟩, fun other => ⟨?_, ?_⟩,
    fun c flags two body => ⟨?_, ?_⟩⟩
  · rw [adopted_of_length other, ite_self] at adopts
    exact adopts
  · rw [frameSent_self (bodySent_repeated (fun h => other h.2) (fun h => absurd h.1 (by decide))
      (fun h => absurd h.1 (by decide)))] at sent
    exact sent
  · rw [frameSent, body, bodySent_numbered s ⟨rfl, two⟩] at sent
    have same : [enumerateCounterOut c, enumerateFlagsOut c flags] = if c.toNat < 250 then [c + 1, flags] else [c, flags ||| 1] := by
      unfold enumerateCounterOut enumerateFlagsOut
      split <;> rfl
    rw [same] at sent
    rw [body]
    exact sent
  · dsimp only
    rw [adopts, adopted_two two body]
    by_cases good : crc = goodCrc 4 l b <;> by_cases large : 250 < c.toNat
    · rw [if_pos good, if_pos large, if_pos (.inr large)]
    · rw [if_pos good, if_neg large, if_neg (c := crc ≠ goodCrc 4 l b ∨ 250 < c.toNat) fun h => h.elim (· good) large]
    · rw [if_neg good, if_pos (.inl good)]
    · rw [if_neg good, if_pos (.inl good)]

/-- Settles O21: the health byte at the node's position. -/
theorem healthByteWritten : Obligations.HealthByteWritten := by
  intro s l b crc awaits whole m a
  obtain ⟨r, passed, -, row⟩ := frameRow_whole awaits 6 whole crc
  rw [handOn_of_kind (by decide), ite_self] at row
  have sent := passed.out
  refine ⟨_, exec_frameOf (c := .healthFrame l b crc) rfl s, row ▸ passed.onlyTransit, fun some few length one inside => ?_,
    fun other => ?_⟩
  · rw [frameSent, bodySent_positioned ⟨rfl, some, few, length, one, inside⟩] at sent
    refine ⟨healthByte s, ?_, healthByte_bits s⟩
    rw [row]
    exact sent
  · rw [frameSent_self (bodySent_repeated (fun h => absurd h.1 (by decide)) (fun h => absurd h.1 (by decide))
      (fun h => other h.2))] at sent
    rw [row]
    exact sent

end

section
/-! PROOF. The frames that a block takes: LEVEL, COMMAND and SYNC (O11, O16, O17, O20). -/

namespace Sys2Proof.Machine

/-! ### The taking of a command reads nothing of the link but the node address -/

section
variable {r : Ring} {s : State} (p : List Instr) (k n : Nat) (same : r.address = s.ring.address)
include same

theorem execute_relinked (seq code : Byte) (params : List Byte) :
    execute seq code params (relinked p r k n s) = relinked p r k n (execute seq code params s) := by
  unfold execute
  cases parse code params with
  | error e => rfl
  | ok c =>
    dsimp only
    rw [effect_relinked p r k n s same c]
    obtain ⟨t, ended⟩ := effect c s
    cases ended <;> rfl

theorem drainQueue_relinked (m : Nat) : drainQueue m (relinked p r k n s) = relinked p r k n (drainQueue m s) := by
  induction m generalizing s with
  | zero => rfl
  | succ m ih =>
    cases queue : s.command.queue with
    | nil => rw [drainQueue_empty _ s queue, drainQueue_empty _ (relinked p r k n s) queue]
    | cons x rest =>
      have next := execute_relinked (s := { s with command := { s.command with queue := rest } }) p k n same x.seq x.code x.params
      have ring : (execute x.seq x.code x.params { s with command := { s.command with queue := rest } }).ring = s.ring :=
        execute_induction (P := fun t => t.ring = s.ring) (fun _ _ _ h => h) (fun _ _ c t _ h => (effect_ring c t).trans h)
          x.seq x.code x.params _ rfl
      rw [drainQueue_cons m s x rest queue, drainQueue_cons m (relinked p r k n s) x rest queue]
      rw [show { relinked p r k n s with command := { (relinked p r k n s).command with queue := rest } }
        = relinked p r k n { s with command := { s.command with queue := rest } } from rfl, next]
      dsimp only
      rw [relinked_command]
      split
      · rfl
      · exact ih (by rw [ring]; exact same)

theorem takeCommand_relinked (seq code : Byte) (params : List Byte) :
    takeCommand seq code params (relinked p r k n s) = relinked p r k n (takeCommand seq code params s) := by
  have executes := execute_relinked p k n same seq code params
  have ring : (execute seq code params s).ring = s.ring :=
    execute_induction (P := fun t => t.ring = s.ring) (fun _ _ _ h => h) (fun _ _ c t _ h => (effect_ring c t).trans h)
      seq code params s rfl
  have drains : drainIfEnded (relinked p r k n s) (relinked p r k n (execute seq code params s))
      = relinked p r k n (drainIfEnded s (execute seq code params s)) := by
    have queue := drainQueue_relinked (r := r) (s := execute seq code params s) p k n (by rw [ring]; exact same)
    simp only [drainIfEnded, drain, relinked_command, queue, apply_ite (relinked p r k n)]
  unfold takeCommand
  simp only [relinked_command, executes, drains, apply_ite (relinked p r k n)]
  rfl

end

theorem takeCommand_keeps (seq code : Byte) (params : List Byte) (s : State) :
    takeCommand seq code params s = relinked s.pending s.ring s.tickCount s.freeCount (takeCommand seq code params s) :=
  takeCommand_relinked s.pending s.tickCount s.freeCount rfl seq code params

/-- The taking of a command on a node with another ring interface, its address the same. -/
theorem takeCommand_other_ring {s : State} {r : Ring} (same : r.address = s.ring.address) (seq code : Byte)
    (params : List Byte) :
    takeCommand seq code params { s with ring := r } = { takeCommand seq code params s with ring := r } := by
  have other := takeCommand_relinked s.pending s.tickCount s.freeCount same seq code params
  rw [show relinked s.pending r s.tickCount s.freeCount s = { s with ring := r } from rfl] at other
  rw [other, takeCommand_keeps seq code params s]
  rfl

/-! ### LEVEL frames (R3, R10, R32, R63) -/

/-- An arrival: the record LIVE, the contributions and last-updated positions of the entries updated, and for a stream that was LOST
the reversal of its loss effects. -/
theorem exists_arrival (i : StreamId) (slots : List Byte) (s : State) :
    ∃ contributions lastUpdated overrides targets ramps,
      let old := s.streams.get i
      let t : State := { s with
        streams := s.streams.put i (arrivalRecord old)
        patch := { contributions := contributions, lastUpdated := lastUpdated }
        target := { overrides := overrides, targets := targets }
        ramps := ramps }
      arrival i slots s = t
        ∧ (∀ k, contributions.get k = updatedContribution s i slots k)
        ∧ (∀ c, lastUpdated.get c = if updatesKey s i slots (keyOf c .a) = true then .a
            else if updatesKey s i slots (keyOf c .b) = true then .b else s.patch.lastUpdated.get c)
        ∧ (∀ c, overrides.get c =
            if old.state = .lost ∧ heldByLoss s i c = true then lossOverride t c else s.target.overrides.get c)
        ∧ Recomputed (fun c => contributions.get (keyOf c .a) ≠ s.patch.contributions.get (keyOf c .a)
            ∨ contributions.get (keyOf c .b) ≠ s.patch.contributions.get (keyOf c .b)
            ∨ lastUpdated.get c ≠ s.patch.lastUpdated.get c
            ∨ old.state = .lost ∧ (heldByLoss s i c = true ∨ old.policy ≠ .hold ∧ hasPresent t i c = true)) s t := by
  obtain ⟨streams, record⟩ : ∃ x : Tab 16 StreamRecord, x = s.streams.put i (arrivalRecord (s.streams.get i)) := ⟨_, rfl⟩
  obtain ⟨contributions, cells⟩ : ∃ x : Tab 48 Contribution, x = Tab.of (updatedContribution s i slots) := ⟨_, rfl⟩
  obtain ⟨lastUpdated, positions⟩ : ∃ x : Tab 24 Position, x = Tab.of fun c => if updatesKey s i slots (keyOf c .a) then .a
    else if updatesKey s i slots (keyOf c .b) then .b else s.patch.lastUpdated.get c := ⟨_, rfl⟩
  have taken : takeValues i slots (setStream i (arrivalRecord (s.streams.get i)) s) = { s with
      streams := streams, patch := { contributions := contributions, lastUpdated := lastUpdated } } := by
    rw [record, cells, positions]
    rfl
  obtain ⟨reversed, reverses, held⟩ := exists_reversed i { s with
    streams := streams, patch := { contributions := contributions, lastUpdated := lastUpdated } }
  have cell (k : Key) : contributions.get k = updatedContribution s i slots k := by rw [cells, Tab.get_of]
  have position (c : Channel) : lastUpdated.get c = if updatesKey s i slots (keyOf c .a) = true then .a
      else if updatesKey s i slots (keyOf c .b) = true then .b else s.patch.lastUpdated.get c := by rw [positions, Tab.get_of]
  clear cells positions
  rw [heldByLoss_congr (s := s) (by rfl)] at held
  by_cases lost : (s.streams.get i).state = .lost
  · obtain ⟨targets, ramps, recomputes, recomputed⟩ := exists_recomputed
      (fun c => handedOn s.patch { contributions := contributions, lastUpdated := lastUpdated } c || heldByLoss s i c
        || ((s.streams.get i).policy != .hold && hasPresent { s with
          streams := streams, patch := { contributions := contributions, lastUpdated := lastUpdated } } i c)) s
      { s with
        streams := streams
        patch := { contributions := contributions, lastUpdated := lastUpdated }
        target := { s.target with overrides := reversed } } rfl rfl
    refine ⟨contributions, lastUpdated, reversed, targets, ramps, ?_, cell, position, fun c => ?_, ?_⟩
    · unfold arrival
      dsimp only
      rw [taken, if_pos lost, reverses, heldByLoss_congr (s := s) (by rfl), recomputes, record]
    · rw [held c, ← record]
      simp only [lost, true_and]
      congr 1
    · rw [← record]
      refine recomputed.of_iff fun c => ?_
      rw [hasPresent_congr (s := { s with
          streams := streams, patch := { contributions := contributions, lastUpdated := lastUpdated } })
        (t := { s with
          streams := streams
          patch := { contributions := contributions, lastUpdated := lastUpdated }
          target := { overrides := reversed, targets := targets }
          ramps := ramps }) rfl rfl]
      simp [handedOn, lost, ne_comm (a := s.patch.contributions.get _), ne_comm (a := s.patch.lastUpdated.get _), or_assoc]
  · obtain ⟨targets, ramps, recomputes, recomputed⟩ := exists_recomputed
      (handedOn s.patch { contributions := contributions, lastUpdated := lastUpdated }) s
      { s with streams := streams, patch := { contributions := contributions, lastUpdated := lastUpdated } } rfl rfl
    refine ⟨contributions, lastUpdated, s.target.overrides, targets, ramps, ?_, cell, position, fun c => ?_, ?_⟩
    · unfold arrival
      dsimp only
      rw [taken, if_neg lost, recomputes, record]
    · rw [if_neg fun h => lost h.1]
    · rw [← record]
      refine recomputed.of_iff fun c => ?_
      simp [handedOn, lost, ne_comm (a := s.patch.contributions.get _), ne_comm (a := s.patch.lastUpdated.get _), or_assoc]

/-- The LEVEL body of an enabled stream is its arrival (R62). -/
theorem levelBody_accepted {s : State} {i : StreamId} {slots : List Byte} {l : BitVec 16} (one : 1 ≤ slots.length)
    (few : slots.length ≤ 240) (length : l.toNat = 2 + slots.length) (on : (s.streams.get i).state ≠ .disabled) :
    levelBody l (byteOf i :: byteOf slots.length :: slots) s = arrival i slots s := by
  have count : (byteOf slots.length).toNat = slots.length := byteOf_toNat_of_lt (by omega)
  rw [levelBody, below_byteOf (by decide)]
  dsimp only
  rw [count]
  exact if_pos ⟨one, few, length, rfl, by simpa [enabled] using on⟩

theorem entryUpdated_iff (s : State) (i : StreamId) (slots : List Byte) (k : Key) :
    EntryUpdated i slots.length (s.active.patch.get k) ↔ updatesKey s i slots k = true := by
  rw [updatesKey_iff, EntryUpdated]
  refine exists_congr fun e => and_congr_right fun _ => and_congr_right fun _ => ?_
  unfold slotsWithin
  cases e.fine <;> simp

theorem updatedContribution_updated {s : State} {i : StreamId} {slots : List Byte} {k : Key} {e : PatchEntry}
    (entry : s.active.patch.get k = some e) (updated : updatesKey s i slots k = true) :
    updatedContribution s i slots k
      = { present := true, raw := rawValue e slots, curved := curvedValue s.active e.curve (rawValue e slots) } := by
  simp only [updatedContribution, entry, updated, if_true]

theorem updatedContribution_kept {s : State} {i : StreamId} {slots : List Byte} {k : Key}
    (kept : ¬ updatesKey s i slots k = true) : updatedContribution s i slots k = s.patch.contributions.get k := by
  unfold updatedContribution
  split
  · rw [if_neg kept]
  · rfl

/-- The raw value of an entry, by its slots (R4). -/
theorem rawValue_toNat (e : PatchEntry) (slots : List Byte) :
    let coarse := (slots.getD e.coarse.val 0).toNat
    (e.fine = none → (rawValue e slots).toNat = coarse * 257)
      ∧ ∀ f, e.fine = some f → (rawValue e slots).toNat = coarse * 256 + (slots.getD f.val 0).toNat := by
  intro coarse
  have small : coarse < 256 := (slots.getD e.coarse.val 0).isLt
  refine ⟨fun none => ?_, fun f fine => ?_⟩
  · simp only [rawValue, none, BitVec.toNat_ofNat]
    omega
  · have := (slots.getD f.val 0).isLt
    simp only [rawValue, fine, BitVec.toNat_ofNat]
    omega

/-- A LEVEL frame of an enabled stream, whatever it does to the frame in transit. -/
theorem levelFrame_taken {s : State} (awaits : AwaitsFrame s) {i : StreamId} {slots : List Byte} {l : BitVec 16}
    (one : 1 ≤ slots.length) (few : slots.length ≤ 240) (length : l.toNat = 2 + slots.length)
    (on : (s.streams.get i).state ≠ .disabled) :
    let body := byteOf i :: byteOf slots.length :: slots
    ∃ r, Passed s (frameOut 1 l body (goodCrc 1 l body)) r
      ∧ exec (.levelFrame l body (goodCrc 1 l body)) s = .next (arrival i slots { s with ring := r }) := by
  intro body
  have whole : Whole l body := ⟨by omega, by simp only [body, List.length_cons]; omega⟩
  obtain ⟨r, passed, -, row⟩ := frameRow_whole awaits 1 whole (goodCrc 1 l body)
  rw [if_pos rfl, show handOn 1 l body { s with ring := r } = levelBody l body { s with ring := r } from rfl,
    levelBody_accepted (s := { s with ring := r }) one few length on] at row
  rw [frameSent_self (bodySent_of_kind s (by decide) (by decide) (by decide) l body)] at passed
  exact ⟨r, passed, (exec_frameOf rfl s).trans (congrArg _ row)⟩

/-! ### COMMAND frames (R133 to R135) -/

/-- The body of a COMMAND frame (R133). -/
theorem commandBody_cons (l : BitVec 16) (mode num seq code : Byte) (params : List Byte) {s : State} (fits : params.length ≤ 64)
    (length : l.toNat = 5 + params.length) (to_node : addressed s mode num = true) :
    commandBody l (mode :: num :: seq :: code :: byteOf params.length :: params) s = takeCommand seq code params s := by
  have count : (byteOf params.length).toNat = params.length := byteOf_toNat_of_lt (by omega)
  rw [commandBody, if_pos]
  rw [count]
  exact ⟨fits, length, rfl, to_node⟩

theorem addressed_iff (s : State) (mode num : Byte) :
    addressed s mode num = true ↔ mode = 1 ∧ 1 ≤ num.toNat ∧ num.toNat ≤ 250 ∧ num = s.ring.address
      ∨ mode = 2 ∧ 1 ≤ num.toNat ∧ num.toNat ≤ 63 ∧ num ∈ s.command.groups ∨ mode = 3 ∧ num = 0 := by
  unfold addressed
  split
  · next one => simp [one, and_assoc]
  · split
    · next two => simp [two, and_assoc]
    · simp only [Bool.and_eq_true, beq_iff_eq]
      tauto

/-- A body that fails the layout of R133, or the addressing of R134, takes nothing. -/
theorem commandBody_refused {s : State} {l : BitVec 16} {b : List Byte}
    (fails : ¬ ∃ mode num seq code params, params.length ≤ 64 ∧ addressed s mode num = true
      ∧ b = mode :: num :: seq :: code :: byteOf params.length :: params) : commandBody l b s = s := by
  unfold commandBody
  split
  · next mode num seq code p params =>
    refine if_neg fun ⟨fits, _, count, to_node⟩ => fails ⟨mode, num, seq, code, params, by omega, to_node, ?_⟩
    rw [count, byteOf_eq_self]
  · rfl

/-- A code that names no command is the code of none that is executed out of turn. -/
theorem unnamed_normal {code seq : Byte} {params : List Byte} (unnamed : commandOf code seq params = none) :
    isUrgent code = false ∧ isNodeStatusRead code params = false := by
  refine ⟨isUrgent_eq_false ?_ ?_ ?_, isNodeStatusRead_eq_false ?_⟩
  · rintro rfl; cases unnamed
  · rintro rfl; cases unnamed
  · rintro rfl; cases unnamed
  · rintro ⟨rfl, -⟩; cases unnamed

theorem takeCommand_idle {s : State} {seq code : Byte} {params : List Byte} (free : SeqFree s.command seq)
    (normal : isUrgent code = false) (waits : isNodeStatusRead code params = false) (idle : s.command.running = none) :
    takeCommand seq code params s = execute seq code params s := by
  simp [takeCommand, isHeld_of_free free, normal, waits, idle]

/-! ### SYNC frames (R127) -/

theorem syncBody_armed {s : State} {e : BitVec 16} (armed : s.staging.state = .armed e) :
    syncBody 2 (wordBytes e) s = commit s := by
  have epoch : wordOf (highByte e) (lowByte e) = e := wordOf_highByte_lowByte e
  exact if_pos ⟨rfl, by rw [armed, epoch]⟩

theorem syncBody_other {s : State} {l : BitVec 16} {b : List Byte} (whole : Whole l b)
    (other : ∀ e, s.staging.state = .armed e → ¬ (l = 2 ∧ b = wordBytes e)) : syncBody l b s = s := by
  obtain _ | ⟨high, _ | ⟨low, rest⟩⟩ := b
  · rfl
  · rfl
  · refine if_neg fun ⟨two, armed⟩ => other _ armed ⟨two, ?_⟩
    have length := whole.2
    rw [two] at length
    obtain rfl : rest = [] := by simpa using length
    rw [wordBytes, highByte_wordOf, lowByte_wordOf]

end Sys2Proof.Machine

open Sys2Proof Sys2Proof.Machine

/-- Settles O11: the taking of the command in the body, whatever the ring interface holds. -/
theorem commandFrameTakesCommand : Obligations.CommandFrameTakesCommand := by
  intro s awaits to_node body_of arrives
  have node_iff (r : Ring) (same : r.address = s.ring.address) (mode num : Byte) :
      addressed { s with ring := r } mode num = true ↔ to_node mode num := by
    rw [addressed_iff]
    dsimp only
    rw [same]
  have row (l : BitVec 16) (b : List Byte) (whole : Whole l b) : ∃ r, Passed s (frameOut 2 l b (goodCrc 2 l b)) r
      ∧ frameRow 2 l b (goodCrc 2 l b) s = commandBody l b { s with ring := r } := by
    obtain ⟨r, passed, -, row⟩ := frameRow_whole awaits 2 whole (goodCrc 2 l b)
    rw [if_pos rfl] at row
    rw [frameSent_self (bodySent_of_kind s (by decide) (by decide) (by decide) l b)] at passed
    exact ⟨r, passed, row⟩
  have arrives_of {l : BitVec 16} {b : List Byte} {u : State} {r : Ring} (passed : Passed s (frameOut 2 l b (goodCrc 2 l b)) r)
      (comes : frameRow 2 l b (goodCrc 2 l b) s = { u with ring := r }) : arrives l b u := by
    refine ⟨_, exec_frameOf (c := .commandFrame l b _) rfl s, ?_⟩
    rw [comes]
    exact ⟨rfl, passed.onlyTransit, passed.out⟩
  refine ⟨?taken, fun l b whole fails => ?ignored⟩
  case ignored =>
    obtain ⟨r, passed, comes⟩ := row l b whole
    rw [commandBody_refused (by simpa only [node_iff r passed.address] using fails)] at comes
    exact arrives_of passed comes
  case taken =>
    intro mode num seq code params l fits length here acts
    have whole : Whole l (body_of mode num seq code params) := by
      refine ⟨by omega, ?_⟩
      simp only [body_of, List.length_cons]
      omega
    obtain ⟨r, passed, comes⟩ := row l _ whole
    have taken : frameRow 2 l (body_of mode num seq code params) (goodCrc 2 l (body_of mode num seq code params)) s
        = { takeCommand seq code params s with ring := r } := by
      rw [comes]
      simp only [body_of]
      rw [commandBody_cons l mode num seq code params fits length ((node_iff r passed.address mode num).mpr here)]
      exact takeCommand_other_ring passed.address seq code params
    have arrived {u : State} (comes : takeCommand seq code params s = u) : acts u := by
      rw [comes] at taken
      exact arrives_of passed taken
    refine ⟨fun named named_row => ⟨takeCommand seq code params s, ?_, arrived rfl⟩, fun unnamed => ?_⟩
    · rw [exec_commandOf named_row, commandRow_heard awaits.1 fits]
    · obtain ⟨normal, waits⟩ := unnamed_normal unnamed
      refine ⟨fun held => ?_, fun free idle => ?_, fun free busy room => ?_, fun free busy full => ?_⟩
      · exact arrived (takeCommand_held held code params)
      · exact arrived ((takeCommand_idle free normal waits idle).trans (execute_error (parse_unknown unnamed)))
      · exact arrived (takeCommand_queued free normal waits busy room)
      · exact arrived (takeCommand_queueFull free normal waits busy full)

/-- Settles O20: the commit of a node armed for the epoch, whatever the ring interface holds. -/
theorem syncCommits : Obligations.SyncCommits := by
  intro s l b awaits whole
  obtain ⟨r, passed, -, row⟩ := frameRow_whole awaits 5 whole (goodCrc 5 l b)
  rw [if_pos rfl, show handOn 5 l b { s with ring := r } = syncBody l b { s with ring := r } from rfl] at row
  have ring : (frameRow 5 l b (goodCrc 5 l b) s).ring = r := by rw [row, syncBody_ring]
  have sent := passed.out
  rw [frameSent_self (bodySent_of_kind s (by decide) (by decide) (by decide) l b)] at sent
  refine ⟨_, exec_frameOf (c := .syncFrame l b _) rfl s, by rw [ring]; exact sent, by rw [ring]; exact passed.onlyTransit,
    fun e armed two body => ?_, fun other => ?_⟩
  · obtain ⟨_, _, _, _, _, _, commits, committed⟩ := exists_committed s
    rw [two, body, syncBody_armed (s := { s with ring := r }) armed,
      show commit { s with ring := r } = relinked s.pending r s.tickCount s.freeCount (commit s) from
        commit_relinked s.pending r s.tickCount s.freeCount s, commits] at row
    rw [two, body, row]
    exact ⟨committed r s.command, rfl⟩
  · rw [syncBody_other (s := { s with ring := r }) whole other] at row
    rw [row]
    exact passed.onlyTransit

/-- Settles O16: the arrival of the values, every other block as it was. -/
theorem levelArrivalTakesValues : Obligations.LevelArrivalTakesValues := by
  intro s i slots l awaits one few length on body updated
  obtain ⟨r, passed, row⟩ := levelFrame_taken awaits one few length on
  obtain ⟨contributions, lastUpdated, overrides, targets, ramps, arrives, cells, positions, -, -⟩ :=
    exists_arrival i slots { s with ring := r }
  rw [arrives] at row
  have updated_iff (k : Key) : updated k ↔ updatesKey s i slots k = true := entryUpdated_iff s i slots k
  refine ⟨_, row, fun j => ?_, fun k e entry is => ?_, fun k is_not => ?_, fun c => ?_, rfl, passed.onlyTransit, passed.out⟩
  · dsimp only
    rw [Tab.get_put]
    rfl
  · intro x coarse
    have value : x = _ := (cells k).trans (updatedContribution_updated (s := { s with ring := r }) entry ((updated_iff k).mp is))
    rw [value]
    exact ⟨rfl, rfl, (rawValue_toNat e slots).1, (rawValue_toNat e slots).2⟩
  · exact (cells k).trans (updatedContribution_kept (s := { s with ring := r }) fun h => is_not ((updated_iff k).mpr h))
  · rw [updated_iff, updated_iff]
    have position : lastUpdated.get c = if updatesKey s i slots (keyOf c .a) = true then .a
      else if updatesKey s i slots (keyOf c .b) = true then .b else s.patch.lastUpdated.get c := positions c
    dsimp only
    rw [position]
    exact ⟨fun a => if_pos a, fun not_a b => by rw [if_neg not_a, if_pos b],
      fun not_a not_b => by rw [if_neg not_a, if_neg not_b]⟩

/-- Settles O17: the channels handed on, and the loss effects reversed. -/
theorem levelArrivalRecomputes : Obligations.LevelArrivalRecomputes := by
  intro s i slots l awaits one few length on body wasLost
  obtain ⟨r, passed, row⟩ := levelFrame_taken awaits one few length on
  obtain ⟨contributions, lastUpdated, overrides, targets, ramps, arrives, -, -, held, recomputed⟩ :=
    exists_arrival i slots { s with ring := r }
  rw [arrives] at row
  exact ⟨_, row, held, recomputed⟩

end

section
/-! PROOF. Supply, RESETN, initialisation and the temperature sensor (O31 to O34). -/

namespace Sys2Proof.Machine

/-! ### Blocks that the audit's end and the loss rules do not touch -/

/-- The end of an audit writes the audit and the command unit alone (R101, R103). -/
theorem endAudit_keeps (result : ResultCode) (s : State) : endAudit result s = { s with
    audit := (endAudit result s).audit, command := (endAudit result s).command } := by
  unfold endAudit
  cases s.audit.run with
  | none => rfl
  | some run => cases s.command.running <;> rfl

theorem abortAudit_keeps (s : State) : abortAudit s = { s with
    audit := (abortAudit s).audit, command := (abortAudit s).command } := by
  unfold abortAudit
  cases s.audit.run with
  | none => rfl
  | some run =>
    dsimp only
    rw [endAudit_keeps]

@[simp] theorem abortAudit_output (s : State) : (abortAudit s).output = s.output := by rw [abortAudit_keeps]

theorem applySetStream_keeps (i : StreamId) (e : Bool) (t : TimeoutSetting) (q : LossPolicy) (s : State) :
    applySetStream i e t q s = { s with
      streams := (applySetStream i e t q s).streams, patch := (applySetStream i e t q s).patch
      target := (applySetStream i e t q s).target, ramps := (applySetStream i e t q s).ramps } := by
  obtain ⟨_, _, _, _, applies, -, -⟩ := exists_applied i e t q s
  rw [applies]

/-! ### Commands that look something up -/

theorem effect_setStream_cases (i : StreamId) (e : Bool) (t : TimeoutSetting) (q : LossPolicy) (s : State) :
    (effect (.setStream i e t q) s).1 = s
      ∨ policyNamed s q = true ∧ (effect (.setStream i e t q) s).1 = applySetStream i e t q s := by
  cases named : policyNamed s q with
  | true => exact .inr ⟨rfl, by rw [effect, effectSetStream_named named]⟩
  | false => exact .inl (by rw [effect, effectSetStream_unnamed named])

theorem effect_recallScene_cases (n : Fin 8) (m : Option Mask) (p : Option (Fin 16)) (s : State) :
    (effect (.recallScene n m p) s).1 = s
      ∨ profileNamed s p = true
        ∧ (effect (.recallScene n m p) s).1 = recompute (recalled s n m) (sceneRecalled s n m p) := by
  cases both : ((s.active.scenes.get n).isSome && profileNamed s p) with
  | true =>
    obtain ⟨scene, named⟩ := Bool.and_eq_true_iff.mp both
    exact .inr ⟨named, by rw [effect, effectRecallScene_named scene named]⟩
  | false => exact .inl (by rw [effect, effectRecallScene_unnamed both])

/-! ### The thermal condition is the sensor's alone (R81) -/

theorem effect_thermal (c : Cmd) (s : State) : (effect c s).1.output.thermal = s.output.thermal := by
  cases c with
  | writePatch | writeChannel | writeProfile | writeCurve | writeScene =>
    simp only [effect, effectWritePatch, effectWriteChannel, effectWriteProfile, effectWriteCurve, effectWriteScene]
    rcases stage_cases _ s with ⟨-, done⟩ | ⟨-, done⟩ <;> rw [done]
  | arm e =>
    simp only [effect, effectArm, validated]
    split
    · rfl
    · split <;> rfl
  | disarm =>
    simp only [effect, effectDisarm]
    split <;> rfl
  | commitNow =>
    simp only [effect, effectCommitNow, validated]
    split
    · rfl
    · split
      · rfl
      · simp
    · simp
  | setStream i e t q =>
    rcases effect_setStream_cases i e t q s with same | ⟨-, applies⟩
    · rw [same]
    · rw [applies, applySetStream_keeps]
  | recallScene n m p =>
    rcases effect_recallScene_cases n m p s with same | ⟨-, recalls⟩
    · rw [same]
    · rw [recalls, recompute_output]
      rfl
  | release m =>
    rw [effect_release]
    simp
  | outputsOn | outputsOff | clearFaults m | setCeiling l =>
    simp [effect, effectOutputsOn, effectOutputsOff, effectClearFaults, effectSetCeiling]
  | startAudit m l d =>
    simp only [effect, effectStartAudit]
    repeat' split
    all_goals simp [*]
  | abortAudit =>
    simp only [effect, effectAbortAudit]
    split <;> simp
  | setGroups | copyActive | read => rfl
  | nodeReset => simp [effect, effectNodeReset, OutputStage.reset]

/-- What a frame does leaves the waiting commands, the free values drawn and the thermal condition as they are. -/
theorem keptByFrames_thermal (p : List Instr) (n : Nat) (x : Thermal) :
    KeptByFrames fun s => s.pending = p ∧ s.freeCount = n ∧ s.output.thermal = x where
  ring _ _ _ h := h
  arrival i slots s _ h := by
    obtain ⟨_, _, _, _, _, arrives, -⟩ := exists_arrival i slots s
    rw [arrives]
    exact h
  command seq code params s h := by
    have thermal : (takeCommand seq code params s).output.thermal = s.output.thermal :=
      KeptByEffects.takeCommand (P := fun t => t.output.thermal = s.output.thermal)
        ⟨fun _ _ _ h => h, fun _ _ c t _ h => (effect_thermal c t).trans h⟩ seq code params s rfl
    rw [thermal, takeCommand_keeps]
    exact h
  commit s _ _ h := by simpa using h

/-! ### One character is sent for each received (R180) -/

/-- From `s` to `t` RING OUT sent `x`, but for what the hold masks, and the bypass and its conditions stayed as they were. -/
structure Sends (s : State) (x : List LineSym) (t : State) : Prop where
  out : t.ring.out = s.ring.out ++ masked s.ring.holdLeft x
  holdLeft : t.ring.holdLeft = s.ring.holdLeft - lineBits x
  bypass : t.ring.bypass = s.ring.bypass
  supplyOk : t.ring.supplyOk = s.ring.supplyOk
  resetnHigh : t.ring.resetnHigh = s.ring.resetnHigh

theorem Sends.nothing (s : State) : Sends s [] s :=
  ⟨by rw [masked_nil, List.append_nil], rfl, rfl, rfl, rfl⟩

theorem Sends.trans {s t u : State} {x y : List LineSym} (first : Sends s x t) (second : Sends t y u) : Sends s (x ++ y) u where
  out := by rw [second.out, first.out, first.holdLeft, masked_append, List.append_assoc]
  holdLeft := by rw [second.holdLeft, first.holdLeft, lineBits_append, Nat.sub_sub]
  bypass := second.bypass.trans first.bypass
  supplyOk := second.supplyOk.trans first.supplyOk
  resetnHigh := second.resetnHigh.trans first.resetnHigh

theorem Sends.send (x : LineSym) (s : State) : Sends s [x] (send x s) where
  out := by rw [masked_cons, masked_nil, List.append_nil]; rfl
  holdLeft := by rw [lineBits_cons, lineBits, Nat.add_zero]; rfl
  bypass := rfl
  supplyOk := rfl
  resetnHigh := rfl

theorem frameEnd_sends (low : Byte) (s : State) : Sends s [] (frameEnd low s) := by
  have ring (k : Byte) (l : BitVec 16) (b : List Byte) (t : State) : Sends t [] (handOn k l b t) := by
    have same := handOn_ring k l b t
    refine ⟨?_, ?_, ?_, ?_, ?_⟩ <;> rw [same]
    · rw [masked_nil, List.append_nil]
    · rfl
  have hunt : Sends s [] { s with ring := { s.ring with rx := .hunt } } :=
    ⟨by rw [masked_nil, List.append_nil], rfl, rfl, rfl, rfl⟩
  unfold frameEnd
  dsimp only
  split
  · have handed := hunt.trans (ring s.ring.kind s.ring.length s.ring.body _)
    exact handed
  · exact hunt

theorem frameByte_sends (b : Byte) (s : State) : ∃ x, Sends s [.char x] (frameByte b s) := by
  have sends (x : Byte) (n : Nat) (k : Byte) (l : BitVec 16) (d : List Byte) (high : Byte) (crc crc' : BitVec 16) (p : Plan) :
      Sends s [.char x] (send (.char x) { s with ring := { s.ring with
        byteCount := n, kind := k, length := l, body := d, crcHigh := high, crcIn := crc, crcOut := crc', plan := p } }) :=
    ⟨(Sends.send (.char x) s).out, (Sends.send (.char x) s).holdLeft, rfl, rfl, rfl⟩
  unfold frameByte
  dsimp only
  repeat' split
  case isTrue.isTrue =>
    have counted := sends (crcByteOut s.ring.plan b (lowByte s.ring.crcIn) (lowByte s.ring.crcOut)) (s.ring.byteCount + 1)
      s.ring.kind s.ring.length s.ring.body s.ring.crcHigh s.ring.crcIn s.ring.crcOut s.ring.plan
    exact ⟨_, counted.trans (frameEnd_sends b _)⟩
  all_goals exact ⟨_, sends _ _ _ _ _ _ _ _ _⟩

theorem backToMark_sends (s : State) :
    Sends s [] (backToMark { s with ring := { s.ring with markSeen := true } }) := by
  unfold backToMark
  split
  · exact ⟨by rw [masked_nil, List.append_nil]; rfl, rfl, rfl, rfl, rfl⟩
  · exact ⟨by rw [masked_nil, List.append_nil], rfl, rfl, rfl, rfl⟩

theorem receiveChar_sends (b : Byte) (s : State) : ∃ x, Sends s [.char x] (receiveChar s b) := by
  have heard := backToMark_sends s
  unfold receiveChar
  split
  · dsimp only
    split
    · obtain ⟨x, sends⟩ := frameByte_sends b (backToMark { s with ring := { s.ring with markSeen := true } })
      exact ⟨x, heard.trans sends⟩
    · exact ⟨b, heard.trans (Sends.send _ _)⟩
  · exact ⟨b, Sends.send _ _⟩

theorem receive_sends (chars : List Byte) (s : State) :
    ∃ sent : List Byte, sent.length = chars.length ∧ Sends s (sent.map .char) (receive chars s) := by
  induction chars generalizing s with
  | nil => exact ⟨[], rfl, Sends.nothing s⟩
  | cons b chars ih =>
    obtain ⟨x, first⟩ := receiveChar_sends b s
    obtain ⟨sent, length, rest⟩ := ih (receiveChar s b)
    exact ⟨x :: sent, by rw [List.length_cons, List.length_cons, length], first.trans rest⟩

/-! ### What RING OUT sent of characters that a change of the bypass cuts (R180, R189) -/

theorem CutShort.length {s : State} {chars cut : List Byte} (h : CutShort s chars cut) : cut.length = chars.length := by
  rcases h with ⟨rest, k, l, b, crc, ⟨-, whole⟩, -, split, rfl⟩ | ⟨-, -, -, -, -, -, rfl⟩
  · have total := congrArg List.length split
    have body := bodySent_length s k whole
    simp only [List.length_append, List.length_cons, wordBytes, List.length_nil, List.length_take] at total ⊢
    omega
  · rfl

/-- With nothing masked what RING OUT sent can be read off. -/
theorem CutShort.unique {s : State} (awaits : AwaitsFrame s) {chars cut cut' : List Byte} (h : CutShort s chars cut)
    (h' : CutShort s chars cut') : cut = cut' := by
  have out {cut : List Byte} (h : CutShort s chars cut) :
      (receive chars (clearOut { s with ring := { s.ring with holdLeft := 0 } })).ring.out = cut.map .char := by
    have unmasked : CutShort { s with ring := { s.ring with holdLeft := 0 } } chars cut := h
    have sent := (unmasked.interrupted awaits).passed.out
    rwa [masked_zero] at sent
  exact List.map_injective_iff.mpr (fun _ _ same => LineSym.char.inj same) ((out h).symm.trans (out h'))

/-- The characters sent for those received: as received in HUNT and past an engaged bypass, of a frame cut short as the frame would
have been sent. -/
theorem exists_sent (s : State) (chars : List Byte) :
    ∃ sent : List Byte, sent.length = chars.length ∧ (s.ring.rx = .hunt → sent = chars)
      ∧ (∀ cut, AwaitsFrame s → CutShort s chars cut → sent = cut) ∧ (s.ring.bypass = .engaged → sent = chars)
      ∧ Sends (clearOut s) (sent.map .char) (receive chars (clearOut s)) := by
  by_cases hears : ringConnected s = true
  · have on : s.ring.bypass = .disengaged := by simpa [ringConnected] using hears
    by_cases hunt : s.ring.rx = .hunt
    · obtain ⟨-, passed, -⟩ := stray_passed chars hears hunt
      refine ⟨chars, rfl, fun _ => rfl, fun cut awaits _ => ?_, fun _ => rfl, ?_⟩
      · rw [awaits.2] at hunt
        cases hunt
      · exact ⟨passed.out, passed.holdLeft, passed.bypass, passed.supplyOk, passed.resetnHigh⟩
    · by_cases truncated : AwaitsFrame s ∧ ∃ cut, CutShort s chars cut
      · obtain ⟨awaits, cut, short⟩ := truncated
        have passed := (short.interrupted awaits).passed
        refine ⟨cut, short.length, fun h => (hunt h).elim, fun cut' _ short' => short.unique awaits short',
          fun h => absurd (on.symm.trans h) (by decide), ?_⟩
        exact ⟨passed.out, passed.holdLeft, passed.bypass, passed.supplyOk, passed.resetnHigh⟩
      · obtain ⟨sent, length, sends⟩ := receive_sends chars (clearOut s)
        exact ⟨sent, length, fun h => (hunt h).elim, fun cut awaits short => (truncated ⟨awaits, cut, short⟩).elim,
          fun h => absurd (on.symm.trans h) (by decide), sends⟩
  · have off : s.ring.bypass = .engaged := by
      cases h : s.ring.bypass with
      | engaged => rfl
      | disengaged => exact (hears (by simp [ringConnected, h])).elim
    refine ⟨chars, rfl, fun _ => rfl, fun cut awaits _ => (hears awaits.1).elim, fun _ => rfl, ?_⟩
    rw [receive_bypassed chars (clearOut s) off]
    exact ⟨rfl, rfl, rfl, rfl, rfl⟩

/-! ### The bypass engages (R188, R189) -/

/-- The bypass engaged: RING OUT is held in mark where it was disengaged, and goes on where it was not. -/
theorem engage_line (s : State) (free : Nat) (sent : List LineSym) (left : Nat) (out : s.ring.out = sent)
    (holdLeft : s.ring.holdLeft = left) (count : s.freeCount = free) :
    if s.ring.bypass = .engaged then
      (engage s).ring.out = sent ∧ (engage s).ring.holdLeft = left ∧ (engage s).freeCount = free
    else HeldInMark sent 0 (engage s) ∧ (engage s).freeCount = free + 1 := by
  have hold := (Config.switchHoldAbove4 s.freeCount).isLt
  split
  · next on =>
    have off : ringConnected s = false := by simp [ringConnected, on]
    simp only [engage, off, Bool.false_eq_true, if_false]
    exact ⟨out, holdLeft, count⟩
  · next off =>
    have on : ringConnected s = true := by
      cases h : s.ring.bypass with
      | engaged => exact (off h).elim
      | disengaged => simp [ringConnected, h]
    simp only [engage, on, if_true]
    refine ⟨⟨4 + (Config.switchHoldAbove4 s.freeCount).val, by omega, by omega, ?_, rfl⟩, ?_⟩
    · simp only [holdMark, out]
    · simp only [holdMark, count]

/-- Of the rest the engaging changes the bypass and the receiver alone. -/
theorem engage_keeps (s : State) : engage s = { s with ring := (engage s).ring, freeCount := (engage s).freeCount }
    ∧ (engage s).ring.supplyOk = s.ring.supplyOk ∧ (engage s).ring.resetnHigh = s.ring.resetnHigh
    ∧ (engage s).ring.bypass = .engaged := by
  unfold engage
  dsimp only
  split <;> exact ⟨rfl, rfl, rfl, rfl⟩

/-- Every block at its reset value, but for what a reset leaves (R190). -/
theorem powerOnState_eq (s : State) : powerOnState s = { State.reset with
    pending := s.pending
    ring := { Ring.reset with
      supplyOk := s.ring.supplyOk, resetnHigh := s.ring.resetnHigh, bypass := s.ring.bypass, out := s.ring.out
      holdLeft := s.ring.holdLeft }
    freeCount := s.freeCount
    output := OutputStage.reset s.output.thermal } := rfl

theorem blocksReset_powerOnState {s u : State} (pending : u.pending = s.pending) : blocksReset s (powerOnState u) := by
  rw [blocksReset, powerOnState_eq, pending]
  rfl

theorem blocksReset_sensor {s u : State} (pending : u.pending = s.pending) (x : Thermal) :
    blocksReset s { powerOnState u with output := OutputStage.reset x } := by
  rw [blocksReset, powerOnState_eq, pending]
  rfl

/-- A node held in reset drives nothing (R191). -/
theorem driveHigh_held {t : State} (held : blocksRun t = false) (c : Channel) (n : Nat) : driveHigh t c n = false := by
  simp [driveHigh, held]

/-- The sensor starts afresh on a node that is released from reset (R81). -/
theorem startSensor_powerOnState (d : Int) (s : State) : startSensor d (powerOnState s) = { powerOnState s with
    output := OutputStage.reset (if blocksRun s = true then thermalAtStart d else s.output.thermal) } := by
  have runs : blocksRun (powerOnState s) = blocksRun s := rfl
  rw [startSensor, runs]
  split <;> rfl

/-! ### Changes of the thermal condition (R81, R82, R105) -/

theorem ruledLevel_hot {s : State} (hot : s.output.thermal = .hot) (c : Channel) : ruledLevel s c = 0 := by
  unfold ruledLevel
  rw [if_pos hot, ite_self]

theorem drainIfEnded_ended {s t : State} (ran : s.command.running.isSome = true) (ended : t.command.running = none) :
    drainIfEnded s t = drain t := by
  simp [drainIfEnded, ran, ended]

end Sys2Proof.Machine

open Sys2Proof Sys2Proof.Machine

/-- Settles O32: every block in its reset state, the sensor afresh where the node is released from reset. -/
theorem powerOnAndReleaseReset : Obligations.PowerOnAndReleaseReset := by
  intro s d
  have on : exec (.powerOn d) s = .next (startSensor d (powerOnState { engage (clearOut s) with
    ring := { (engage (clearOut s)).ring with supplyOk := true } })) := rfl
  have release : exec (.resetnRelease d) s = .next (startSensor d (powerOnState { engage (clearOut s) with
    ring := { (engage (clearOut s)).ring with resetnHigh := true } })) := rfl
  obtain ⟨frame, supply, resetn, engaged⟩ := engage_keeps (clearOut s)
  have line := engage_line (clearOut s) s.freeCount [] s.ring.holdLeft rfl rfl rfl
  generalize engage (clearOut s) = u at *
  have pending : u.pending = s.pending := by rw [frame]; rfl
  have thermal : u.output.thermal = s.output.thermal := by rw [frame]; rfl
  rw [startSensor_powerOnState] at on release
  refine ⟨_, _, on,
    blocksReset_sensor (u := { u with ring := { u.ring with supplyOk := true } }) pending _, ⟨rfl, engaged, rfl, rfl, rfl, rfl⟩, line, rfl, resetn, ?_, release,
    blocksReset_sensor (u := { u with ring := { u.ring with resetnHigh := true } }) pending _, ⟨rfl, engaged, rfl, rfl, rfl, rfl⟩, line, rfl, supply, ?_⟩
  · have runs : blocksRun { u with ring := { u.ring with supplyOk := true } } = s.ring.resetnHigh := resetn
    rw [runs]
    exact if_congr Iff.rfl rfl thermal
  · have runs : blocksRun { u with ring := { u.ring with resetnHigh := true } } = s.ring.supplyOk := by
      simp only [blocksRun, Bool.and_true]
      exact supply
    rw [runs]
    exact if_congr Iff.rfl rfl thermal

/-- Settles O33: the frame in transit cut, and every block in its reset state. -/
theorem powerFailAndAssertHold : Obligations.PowerFailAndAssertHold := by
  refine ⟨fun s => by simp [blocksRun], fun s chars => ?_⟩
  obtain ⟨sent, length, hunt, cut, passes, sends⟩ := exists_sent s chars
  obtain ⟨pending, count, thermal⟩ :=
    (keptByFrames_thermal s.pending s.freeCount s.output.thermal).receive chars (clearOut s) ⟨rfl, rfl, rfl⟩
  have line := engage_line (receive chars (clearOut s)) s.freeCount (masked s.ring.holdLeft (sent.map .char))
    (s.ring.holdLeft - lineBits (sent.map .char)) sends.out sends.holdLeft count
  rw [show (receive chars (clearOut s)).ring.bypass = s.ring.bypass from sends.bypass] at line
  have supply_kept : (receive chars (clearOut s)).ring.supplyOk = s.ring.supplyOk := sends.supplyOk
  have resetn_kept : (receive chars (clearOut s)).ring.resetnHigh = s.ring.resetnHigh := sends.resetnHigh
  have fails : exec (.powerFail chars) s = .next (powerOnState { engage (receive chars (clearOut s)) with
    ring := { (engage (receive chars (clearOut s))).ring with supplyOk := false } }) := rfl
  have asserts : exec (.resetnAssert chars) s = .next (powerOnState { engage (receive chars (clearOut s)) with
    ring := { (engage (receive chars (clearOut s))).ring with resetnHigh := false } }) := rfl
  obtain ⟨frame, supply, resetn, engaged⟩ := engage_keeps (receive chars (clearOut s))
  generalize receive chars (clearOut s) = v at *
  generalize engage v = u at *
  have pending_kept : u.pending = s.pending := by rw [frame]; exact pending
  have thermal_kept : u.output.thermal = s.output.thermal := by rw [frame]; exact thermal
  have left : ∃ sent : List Byte, sent.length = chars.length ∧ (s.ring.rx = .hunt → sent = chars)
      ∧ (∀ cut, AwaitsFrame s → CutShort s chars cut → sent = cut)
      ∧ if s.ring.bypass = .engaged then
          sent = chars ∧ u.ring.out = masked s.ring.holdLeft (sent.map .char)
            ∧ u.ring.holdLeft = s.ring.holdLeft - lineBits (sent.map .char) ∧ u.freeCount = s.freeCount
        else HeldInMark (masked s.ring.holdLeft (sent.map .char)) 0 u ∧ u.freeCount = s.freeCount + 1 := by
    refine ⟨sent, length, hunt, cut, ?_⟩
    split
    · next on =>
      rw [if_pos on] at line
      exact ⟨passes on, line⟩
    · next off =>
      rw [if_neg off] at line
      exact line
  exact ⟨_, _, fails, blocksReset_powerOnState pending_kept, ⟨rfl, engaged, rfl, rfl, rfl, rfl⟩, left, rfl,
    resetn.trans resetn_kept, thermal_kept, driveHigh_held rfl, asserts, blocksReset_powerOnState pending_kept,
    ⟨rfl, engaged, rfl, rfl, rfl, rfl⟩, left, rfl, supply.trans supply_kept, thermal_kept,
    driveHigh_held (by simp [blocksRun, powerOnState])⟩

/-- Settles O34: the bypass disengages after the characters that passed it. -/
theorem initialisationEnds : Obligations.InitialisationEnds := by
  intro s chars lineInSpace runs bypassed
  have row : exec (.initialisationEnd chars lineInSpace) s = .next (disengage lineInSpace (receive chars (clearOut s))) := by
    have starts : (blocksRun s && !ringConnected s) = true := by simp [runs, ringConnected, bypassed]
    exact congrArg _ (if_pos starts)
  rw [receive_bypassed chars (clearOut s) bypassed] at row
  have hold := (Config.switchHoldAbove4 s.freeCount).isLt
  refine ⟨_, row, rfl, rfl, rfl, rfl, rfl, rfl, ?_, ?_, rfl, rfl, rfl, rfl⟩
  · cases lineInSpace <;> simp [disengage]
  · exact ⟨4 + (Config.switchHoldAbove4 s.freeCount).val, by omega, by omega, rfl, rfl⟩

/-- Settles O31: the sensor's step, and the abort of an audit on entry into HOT. -/
theorem thermalConditionMoves : Obligations.ThermalConditionMoves := by
  intro s d
  have row : exec (.thermalConditionChange d) s = .next
    (if blocksRun s && thermalNext s.output.thermal d != s.output.thermal then changeThermal (thermalNext s.output.thermal d) s
      else s) := rfl
  refine ⟨fun held => ?held, fun runs => ?runs⟩
  case held => rw [row, held]; rfl
  case runs =>
    intro new changed
    have next : thermalNext s.output.thermal d = new := by
      simp only [thermalNext, new]
      cases s.output.thermal <;> simp only [ge_iff_le]
      split
      · rw [if_neg (by omega)]
      · rfl
    clear_value new
    rw [next, runs, Bool.true_and] at row
    refine ⟨fun same => ?stays, fun moves quiet => ?quiet, fun run c r hot warm running under record => ?aborts⟩
    case stays => rw [row, same]; simp
    case quiet =>
      obtain ⟨levels, marks, tests, forms, formed⟩ :=
        exists_formed s { s with output := { s.output with thermal := new } } rfl rfl
      have moved : changeThermal new s = formOutputs { s with output := { s.output with thermal := new } } := by
        unfold changeThermal
        dsimp only
        split
        · next hot =>
          obtain ⟨idle, empty⟩ := quiet.resolve_left fun h => h hot
          rw [abortAudit_idle { s with output := { s.output with thermal := new } } idle, drainIfEnded_idle _ _ empty]
        · rfl
      rw [if_pos (by simpa using moves), moved, forms] at row
      refine ⟨_, row, ⟨formed, rfl⟩, rfl, fun hot c => ?_⟩
      rw [(formed c).1]
      exact ruledLevel_hot hot c
    case aborts =>
      obtain ⟨levels, marks, tests, forms, formed⟩ := exists_formed s { s with
        output := { s.output with thermal := new }
        audit := { run := none, results := s.audit.results.put c .aborted }
        command := { withReply s.command (auditRecord r .aborted run.tallies) with running := none } } rfl rfl
      have moves : new ≠ s.output.thermal := by rw [hot, warm]; decide
      rw [if_pos (by simpa using moves), changeThermal, if_pos hot,
        abortAudit_running { s with output := { s.output with thermal := new } } run c r running under record, forms,
        drainIfEnded_ended (by rw [record]; rfl) rfl] at row
      refine ⟨_, row, ⟨formed, rfl⟩, rfl, rfl, fun e => ?_, rfl⟩
      rw [(formed e).1]
      exact ruledLevel_hot hot e

end

section
/-! PROOF. The load audit (O27 to O29, O51, O53). -/

namespace Sys2Proof.Machine

/-! ### The channels of the mask in order (R99) -/

theorem forcedOff_iff (s : State) (c : Channel) : forcedOff s c = true ↔ Skips s c := by
  simp [forcedOff, Skips, Option.isSome_iff_ne_none]

/-- The channels in order, split at one of them. -/
theorem channels_split : ∀ d : Channel, channels = channels.filter (· < d) ++ d :: channels.filter (d < ·) := by
  decide

theorem filter_channels_split {p : Channel → Bool} {d : Channel} (above : p d = true) :
    channels.filter p = channels.filter (fun e => p e && decide (e < d)) ++ d :: channels.filter fun e => p e && decide (d < e) := by
  conv_lhs => rw [channels_split d]
  rw [List.filter_append, List.filter_cons_of_pos above, List.filter_filter, List.filter_filter]

/-- The results after so many channels were skipped (R99). -/
def skippedResults (p : Channel → Bool) (results : Tab 24 AuditResult) : Tab 24 AuditResult :=
  Tab.of fun e => if p e = true then .skipped else results.get e

theorem skippedMore_zero (t : Tallies) : skippedMore t 0 = t := rfl

/-- Channels at the front of the list that are not in the mask, or latched under FORCE_OFF, are passed over, those of the mask
counted as skipped. -/
theorem takeChannel_passes {forced : Channel → Bool} {mask : Mask} (front rest : List Channel)
    (skips : ∀ e ∈ front, inMask mask e = true → forced e = true) (run : AuditRun) (same : run.mask = mask)
    (results : Tab 24 AuditResult) :
    takeChannel forced (front ++ rest) run results = takeChannel forced rest
      { run with tallies := skippedMore run.tallies (front.filter (inMask mask)).length }
      (skippedResults (fun e => decide (e ∈ front) && inMask mask e) results) := by
  induction front generalizing run results with
  | nil =>
    have none : skippedResults (fun e => decide (e ∈ ([] : List Channel)) && inMask mask e) results = results :=
      Tab.ext_get fun e => by simp [skippedResults]
    rw [none]
    rfl
  | cons c front ih =>
    have skips_rest : ∀ e ∈ front, inMask mask e = true → forced e = true := fun e there =>
      skips e (List.mem_cons_of_mem _ there)
    rw [List.cons_append, takeChannel]
    by_cases named : inMask mask c = true
    · have marks : skippedResults (fun e => decide (e ∈ front) && inMask mask e) (results.put c .skipped)
          = skippedResults (fun e => decide (e ∈ c :: front) && inMask mask e) results := by
        refine Tab.ext_get fun e => ?_
        simp only [skippedResults, Tab.get_of, Tab.get_put, List.mem_cons]
        by_cases here : e = c
        · subst here
          simp [named]
        · simp [here]
      have count (n : Nat) : skippedMore { run.tallies with skipped := run.tallies.skipped + 1 } n
          = skippedMore run.tallies (n + 1) := by
        simp only [skippedMore, Nat.add_assoc, Nat.add_comm 1 n]
      rw [if_pos (by rw [same]; exact named), if_pos (skips c List.mem_cons_self named), ih skips_rest _ (by exact same),
        List.filter_cons_of_pos named, List.length_cons, marks, count]
    · have marks : skippedResults (fun e => decide (e ∈ front) && inMask mask e) results
          = skippedResults (fun e => decide (e ∈ c :: front) && inMask mask e) results := by
        refine Tab.ext_get fun e => ?_
        simp only [skippedResults, Tab.get_of, List.mem_cons]
        by_cases here : e = c
        · subst here
          simp [named]
        · simp [here]
      rw [if_neg (by rw [same]; exact named), ih skips_rest run same, List.filter_cons_of_neg named, marks]

/-- The next channel to test is taken, the channels of the mask before it skipped. -/
theorem takeNext_finds {s : State} {run : AuditRun} {p : Channel → Bool} {d : Channel}
    (next : NextTested s run.mask (fun e => p e = true) d) (results : Tab 24 AuditResult) :
    let between := fun e => p e && decide (e < d) && inMask run.mask e
    takeNext (channels.filter p) run results s = { s with audit := {
      run := some { run with under := some d, periods := 0, tallies := skippedMore run.tallies (countChannels between) }
      results := skippedResults between results } } := by
  intro between
  obtain ⟨named, above, tests, before⟩ := next
  have front : ∀ e ∈ channels.filter (fun e => p e && decide (e < d)), inMask run.mask e = true → forcedOff s e = true := by
    intro e there inside
    obtain ⟨here, lower⟩ := by simpa using (List.mem_filter.mp there).2
    exact (forcedOff_iff s e).mpr (before e here lower inside)
  have count : ((channels.filter fun e => p e && decide (e < d)).filter (inMask run.mask)).length = countChannels between := by
    rw [List.filter_filter, countChannels]
    congr 2
    funext e
    simp only [between, Bool.and_comm]
  have marks : (fun e => decide (e ∈ channels.filter fun e => p e && decide (e < d)) && inMask run.mask e) = between := by
    funext e
    simp [between, channels]
  have taken : takeChannel (forcedOff s) (channels.filter p) run results
      = ({ run with under := some d, periods := 0, tallies := skippedMore run.tallies (countChannels between) },
        skippedResults between results) := by
    rw [filter_channels_split above, takeChannel_passes _ _ front run rfl, count, marks, takeChannel, if_pos named,
      if_neg (by rw [forcedOff_iff]; exact tests)]
  simp only [takeNext, taken]

/-- Where no channel is left to test every one of the mask is skipped. -/
theorem takeNext_exhausts {s : State} {run : AuditRun} {p : Channel → Bool}
    (skips : ∀ e, p e = true → inMask run.mask e = true → Skips s e) (results : Tab 24 AuditResult) :
    let left := fun e => p e && inMask run.mask e
    takeNext (channels.filter p) run results s = { s with audit := {
      run := some { run with under := none, tallies := skippedMore run.tallies (countChannels left) }
      results := skippedResults left results } } := by
  intro left
  have front : ∀ e ∈ channels.filter p, inMask run.mask e = true → forcedOff s e = true := fun e there inside =>
    (forcedOff_iff s e).mpr (skips e (List.mem_filter.mp there).2 inside)
  have count : ((channels.filter p).filter (inMask run.mask)).length = countChannels left := by
    rw [List.filter_filter, countChannels]
    congr 2
    funext e
    simp only [left, Bool.and_comm]
  have marks : (fun e => decide (e ∈ channels.filter p) && inMask run.mask e) = left := by
    funext e
    simp [left, channels]
  have taken : takeChannel (forcedOff s) (channels.filter p) run results
      = ({ run with under := none, tallies := skippedMore run.tallies (countChannels left) },
        skippedResults left results) := by
    rw [← List.append_nil (channels.filter p), takeChannel_passes _ _ front run rfl, count, marks]
    rfl
  simp only [takeNext, taken]

/-- A next channel to test, or every channel of the mask skipped (R99). -/
theorem exists_nextTested_or_skips (s : State) (mask : Mask) (above : Channel → Prop) :
    (∃ d, NextTested s mask above d) ∨ ∀ e, above e → inMask mask e = true → Skips s e := by
  by_cases some_tests : ∃ e, above e ∧ inMask mask e = true ∧ ¬ Skips s e
  · obtain ⟨d, ⟨here, named, tests⟩, least⟩ := WellFounded.has_min (wellFounded_lt (α := Channel))
      {e | above e ∧ inMask mask e = true ∧ ¬ Skips s e} some_tests
    exact .inl ⟨d, named, here, tests, fun e there lower inside => by_contra fun free => least e ⟨there, inside, free⟩ lower⟩
  · exact .inr fun e there inside => by_contra fun free => some_tests ⟨e, there, inside, free⟩

/-! ### The end of a dwell (R100, R101) -/

theorem endAudit_audit (result : ResultCode) (s : State) : (endAudit result s).audit = { s.audit with run := none } := by
  unfold endAudit
  split
  · next idle => rw [← idle]
  · split <;> rfl


theorem classify_eq_verdictOf (report : PeriodReport) : classify report = verdictOf report := by
  unfold classify verdictOf
  rcases report.sense with _ | _ | _ <;> rfl

theorem skippedMore_tally (t : Tallies) (report : PeriodReport) (n : Nat) :
    skippedMore (tally t (verdictOf report)) n = tallied t (verdictOf report) n := by
  obtain ⟨driven, sense⟩ := report
  rcases driven with _ | _
  · rfl
  · rcases sense with _ | _ | _ <;> rfl

section
variable {s : State} {run : AuditRun} {c : Channel} (running : s.audit.run = some run) (under : run.under = some c)
  (late : run.dwell ≤ run.periods)
include running under late

theorem closeDwell_late :
    closeDwell s =
      if (underTest (classifyAndTake run c s).audit).isSome = true then formOutputs (classifyAndTake run c s)
      else formOutputs (endAudit .ok (classifyAndTake run c s)) := by
  simp only [closeDwell, running, under, late, if_true]

/-- The next channel is under test. -/
theorem closeDwell_next {d : Channel} (next : NextTested s run.mask (fun e => c < e) d) :
    let verdict := verdictOf (s.output.reports.get c)
    let between := fun e : Channel => decide (c < e) && decide (e < d) && inMask run.mask e
    closeDwell s = formOutputs { s with audit := {
      run := some { run with under := some d, periods := 0, tallies := tallied run.tallies verdict (countChannels between) }
      results := skippedResults between (s.audit.results.put c verdict) } } := by
  intro verdict between
  have taken : classifyAndTake run c s = _ := takeNext_finds (s := s) (p := fun e => decide (c < e))
    (run := { run with tallies := tally run.tallies (classify (s.output.reports.get c)), under := none })
    (by simpa using next) (s.audit.results.put c (classify (s.output.reports.get c)))
  rw [classify_eq_verdictOf, skippedMore_tally] at taken
  rw [closeDwell_late running under late, taken]
  rfl

/-- No channel is left: the audit ends. -/
theorem closeDwell_last (skips : ∀ e, c < e → inMask run.mask e = true → Skips s e) :
    let verdict := verdictOf (s.output.reports.get c)
    let above := fun e : Channel => decide (c < e) && inMask run.mask e
    closeDwell s = formOutputs (endAudit .ok { s with audit := {
      run := some { run with under := none, tallies := tallied run.tallies verdict (countChannels above) }
      results := skippedResults above (s.audit.results.put c verdict) } }) := by
  intro verdict above
  have taken : classifyAndTake run c s = _ := takeNext_exhausts (s := s) (p := fun e => decide (c < e))
    (run := { run with tallies := tally run.tallies (classify (s.output.reports.get c)), under := none })
    (by simpa using skips) (s.audit.results.put c (classify (s.output.reports.get c)))
  rw [classify_eq_verdictOf, skippedMore_tally] at taken
  rw [closeDwell_late running under late, taken]
  rfl

/-- The dwell closed, whatever comes after it. -/
theorem dwellClosed_closeDwell : DwellClosed s run c (closeDwell s) := by
  have result (p : Channel → Bool) (x : AuditResult) (not_c : p c = false) (e : Channel) :
      (skippedResults p (s.audit.results.put c x)).get e =
        if e = c then x else if p e = true then .skipped else s.audit.results.get e := by
    simp only [skippedResults, Tab.get_of, Tab.get_put]
    by_cases here : e = c
    · subst here
      simp [not_c]
    · simp [here]
  obtain ⟨audit, command, closes⟩ : ∃ audit command, closeDwell s = formOutputs { s with audit := audit, command := command } := by
    rcases exists_nextTested_or_skips s run.mask (fun e => c < e) with ⟨d, next⟩ | skips
    · exact ⟨_, s.command, closeDwell_next running under late next⟩
    · rw [closeDwell_last running under late skips, endAudit_keeps]
      exact ⟨_, _, rfl⟩
  obtain ⟨levels, marks, tests, forms, formed⟩ := exists_formed s { s with audit := audit, command := command } rfl rfl
  refine ⟨fun d next => ?_, fun skips => ?_, ?_, ?_⟩
  · rw [closeDwell_next running under late next, formOutputs_audit, formOutputs_command]
    exact ⟨rfl, result _ _ (by simp), rfl⟩
  · rw [closeDwell_last running under late skips, formOutputs_audit, formOutputs_command, endAudit_audit]
    refine ⟨rfl, result _ _ (by simp), fun r record => ?_⟩
    rw [endAudit_running .ok _ _ r (by rfl) (by exact record)]
  · rw [closes, forms]
    exact formed
  · rw [closes, forms]

end

/-! ### Urgent commands (R138, R141) -/

/-- An urgent command that ends the audit that ran adds its record, and the queue drains. -/
theorem exec_urgent {c : Cmd} (ok : CmdOk c) {s s' : State} {seq : Byte} (takes : Takes s seq) {row : Instr}
    (named : commandOf (codeOf c) seq (paramsOf c) = some row) (urgent : isUrgent (codeOf c) = true)
    (ran : s.command.running.isSome = true) {data : List Byte} (ends : effect c s = (s', .done data))
    (ended : s'.command.running = none) :
    exec row s = .next (drain { s' with command := withReply s'.command (doneRecord seq (codeOf c) data) }) := by
  obtain ⟨hears, free⟩ := takes
  have taken : takeCommand seq (codeOf c) (paramsOf c) s = drainIfEnded s (execute seq (codeOf c) (paramsOf c) s) := by
    simp [takeCommand, isHeld_of_free free, urgent]
  rw [exec_commandOf named, commandRow_heard hears (paramsOf_length c ok), taken, execute_done (parse_paramsOf c ok) ends,
    drainIfEnded_ended ran (by exact ended)]

/-! ### The beginning of an audit (R98, R99) -/

/-- A command whose effect begins an audit holds the running slot. -/
theorem execute_began {seq code : Byte} {params : List Byte} {s s' : State} {c : Cmd} (right : parse code params = .ok c)
    (ends : effect c s = (s', .began)) :
    execute seq code params s = { s' with command := { s'.command with
      running := some { seq := seq, code := code, status := .running, result := none, data := [], params := [] } } } := by
  simp only [execute, right, ends]

theorem all_channels : channels.filter (fun _ => true) = channels := by decide

section
variable {s : State} {m : Mask} {l : Level} {d : Nat} (on : s.output.switchOn = true) (cool : s.output.thermal ≠ .hot)
include on cool

/-- An audit begins with its first channel that is not skipped. -/
theorem effectStartAudit_begins {c : Channel} (first : NextTested s m (fun _ => True) c) {below : Channel → Bool}
    (skipped : below = fun e => decide (e < c) && inMask m e) :
    effect (.startAudit m l d) s = (formOutputs { s with audit := {
      run := some { mask := m, testLevel := l, dwell := d, under := some c, periods := 0
                    tallies := { pass := 0, openLoad := 0, shortLoad := 0, skipped := countChannels below } }
      results := skippedResults below (Tab.all .notTested) } }, .began) := by
  subst skipped
  have taken : beginAudit m l d s = _ := (congrArg (takeNext · _ _ s) all_channels.symm).trans
    (takeNext_finds (p := fun _ => true) (run := { mask := m, testLevel := l, dwell := d, under := none, periods := 0, tallies := .zero })
      (by simpa using first) (Tab.all .notTested))
  simp only [effect, effectStartAudit]
  rw [if_neg (by simp [on, cool]), taken]
  simp only [Option.isSome_some, if_true, Bool.true_and, skippedMore, Tallies.zero, Nat.zero_add]

/-- An audit whose every channel is skipped completes at once. -/
theorem effectStartAudit_completes (skips : ∀ e, inMask m e = true → Skips s e) :
    effect (.startAudit m l d) s = (formOutputs { s with audit := {
      run := none, results := skippedResults (inMask m) (Tab.all .notTested) } },
      .done [0, 0, 0, byteOf (countChannels (inMask m))]) := by
  have taken : beginAudit m l d s = _ := (congrArg (takeNext · _ _ s) all_channels.symm).trans
    (takeNext_exhausts (p := fun _ => true) (run := { mask := m, testLevel := l, dwell := d, under := none, periods := 0, tallies := .zero })
      (fun e _ => skips e) (Tab.all .notTested))
  simp only [effect, effectStartAudit]
  rw [if_neg (by simp [on, cool]), taken]
  simp only [Option.isSome_none, Bool.false_eq_true, if_false, Bool.true_and, skippedMore, Tallies.zero, Nat.zero_add, tallyBytes]
  rfl

end

end Sys2Proof.Machine

open Sys2Proof Sys2Proof.Machine

/-- Settles O27: a count of 3 settled, and the levels formed at once. -/
theorem faultLatchSets : Obligations.FaultLatchSets := by
  intro s c three
  obtain ⟨monitors, cells⟩ : ∃ x : Tab 24 Monitor, x = s.output.monitors.put c (settleLatch (s.output.monitors.get c)) := ⟨_, rfl⟩
  have row : exec (.faultLatchSet c) s = .next (formOutputs { s with output := { s.output with
    monitors := s.output.monitors.put c (settleLatch (s.output.monitors.get c)) } }) := rfl
  obtain ⟨levels, marks, tests, forms, formed⟩ := exists_formed s { s with output := { s.output with monitors := monitors } } rfl rfl
  rw [← cells, forms] at row
  have settled : settleLatch (s.output.monitors.get c) = { s.output.monitors.get c with
      count := 0
      latch := match (s.output.monitors.get c).latch with
        | some k => some k
        | none => some (s.output.monitors.get c).pending } := by
    rw [settleLatch, if_pos (by omega)]
    cases (s.output.monitors.get c).latch <;> rfl
  have cell (d : Channel) : monitors.get d = if d = c then settleLatch (s.output.monitors.get c) else s.output.monitors.get d := by
    rw [cells, Tab.get_put]
  have latched : (monitors.get c).latch ≠ none := by
    rw [cell, if_pos rfl, settled]
    cases (s.output.monitors.get c).latch <;> simp
  refine ⟨_, row, fun d => ?_, ?_, formed, fun off => ?_, rfl⟩
  · exact (cell d).trans (if_congr Iff.rfl settled rfl)
  · exact (healthByte_bits _).2.2.2.1.mpr ⟨c, latched⟩
  · rw [(formed c).1]
    unfold ruledLevel
    split
    · rfl
    · split
      · rfl
      · exact if_pos ⟨latched, off⟩

/-- Settles O28: the dwell closed with a channel left to take. -/
theorem dwellEndTakesNext : Obligations.DwellEndTakesNext := by
  intro s run c d running under late next verdict between
  obtain ⟨taken, -, formed, frame⟩ := dwellClosed_closeDwell running under late
  obtain ⟨under_test, results, command⟩ := taken d next
  have row : exec .auditDwellEnd s = .next (drainIfEnded s (closeDwell s)) := rfl
  have goes_on : drainIfEnded s (closeDwell s) = closeDwell s := by
    rw [drainIfEnded, command, if_neg]
    cases s.command.running <;> simp
  rw [goes_on] at row
  refine ⟨_, row, under_test, results, formed, ?_⟩
  rw [command] at frame
  exact frame

/-- Settles O29: the dwell of the last channel closed, or an audit with every entry recorded ended. -/
theorem auditCompletes : Obligations.AuditCompletes := by
  intro s run r running record
  refine ⟨fun c under late skips => ?last, fun none recorded => ?exhausted⟩
  case last =>
    have closed := dwellClosed_closeDwell running under late
    obtain ⟨-, ends, -, -⟩ := id closed
    obtain ⟨idle, -, unit⟩ := ends skips
    have row : exec .auditDwellEnd s = .next (drainIfEnded s (closeDwell s)) := rfl
    rw [drainIfEnded_ended (by rw [record]; rfl) (by rw [unit r record])] at row
    exact ⟨_, row, idle, closed⟩
  case exhausted =>
    obtain ⟨levels, marks, tests, forms, formed⟩ := exists_formed s { s with
      audit := { s.audit with run := Option.none }
      command := { withReply s.command (auditRecord r .ok run.tallies) with running := Option.none } } rfl rfl
    have recorded_all : auditExhausted s.audit = true := by
      simp only [auditExhausted, running, none, maskChannels, channels, Option.isNone_none, Bool.true_and, List.all_eq_true,
        List.mem_filter, bne_iff_ne]
      exact fun e there => recorded e there.2
    have row : exec .auditComplete s = .next (completeAudit s) := rfl
    rw [completeAudit, if_pos recorded_all, endAudit_running .ok s run r running record, forms,
      drainIfEnded_ended (by rw [record]; rfl) rfl] at row
    exact ⟨_, row, rfl, rfl, formed, rfl⟩

/-- Settles O51: the switch or the abort at once, then the record, then the draining. -/
theorem urgentCommandsAbort : Obligations.UrgentCommandsAbort := by
  intro s seq takes formed
  refine ⟨fun idle empty => ⟨?off, ?abort⟩, ?running⟩
  case off =>
    have ready : Ready s seq := ⟨takes.1, empty, takes.2⟩
    have ends : effect .outputsOff s = (formOutputs { s with output := { s.output with switchOn := false } }, .done []) := by
      rw [effect, effectOutputsOff, abortAudit_idle { s with output := { s.output with switchOn := false } } idle]
    obtain ⟨levels, marks, tests, row, now⟩ := exec_ready_formed (c := .outputsOff) trivial ready rfl ends rfl rfl
    refine ⟨_, row, ⟨now, rfl⟩, fun c => ?_, rfl⟩
    rw [(now c).1]
    exact if_pos rfl
  case abort =>
    have ready : Ready s seq := ⟨takes.1, empty, takes.2⟩
    have ends : effect .abortAudit s = (s, .done []) := by
      rw [effect, effectAbortAudit, idle]
      rfl
    exact exec_ready_done (c := .abortAudit) trivial ready rfl ends
  case running =>
    intro run c r running under record results records
    have ends_off : effect .outputsOff s = (formOutputs { s with
        output := { s.output with switchOn := false }
        audit := { run := none, results := results }
        command := { withReply s.command (auditRecord r .aborted run.tallies) with running := none } }, .done []) := by
      rw [effect, effectOutputsOff, abortAudit_running { s with output := { s.output with switchOn := false } } run c r running
        under record]
    have ends_abort : effect .abortAudit s = (formOutputs { s with
        audit := { run := none, results := results }
        command := { withReply s.command (auditRecord r .aborted run.tallies) with running := none } }, .done []) := by
      rw [effect, effectAbortAudit, running, abortAudit_running s run c r running under record]
      rfl
    obtain ⟨levels, marks, tests, forms, now⟩ := exists_formed s { s with
      output := { s.output with switchOn := false }
      audit := { run := none, results := results }
      command := { withReply s.command (auditRecord r .aborted run.tallies) with running := none } } rfl rfl
    obtain ⟨levels', marks', tests', forms', now'⟩ := exists_formed s { s with
      audit := { run := none, results := results }
      command := { withReply s.command (auditRecord r .aborted run.tallies) with running := none } } rfl rfl
    rw [forms] at ends_off
    rw [forms'] at ends_abort
    refine ⟨_, _, exec_urgent (c := .outputsOff) trivial takes rfl rfl (by rw [record]; rfl) ends_off rfl, ⟨now, rfl⟩,
      fun c => ?_, rfl, exec_urgent (c := .abortAudit) trivial takes rfl rfl (by rw [record]; rfl) ends_abort rfl,
      ⟨now', rfl⟩, rfl⟩
    rw [(now c).1]
    exact if_pos rfl

/-- Settles O53: the first channel taken, or every one skipped. -/
theorem startAuditBegins : Obligations.StartAuditBegins := by
  intro s seq m l d ready ok row may formed
  refine ⟨fun c ⟨on, cool⟩ first => ?begins, fun ⟨on, cool⟩ skips => ?completes, fun not => ?refused⟩
  case begins =>
    intro below
    have ends := effectStartAudit_begins (l := l) (d := d) on cool first (below := below) rfl
    obtain ⟨results, cells⟩ : ∃ x, x = skippedResults below (Tab.all .notTested) := ⟨_, rfl⟩
    obtain ⟨levels, marks, tests, forms, now⟩ := exists_formed s { s with audit := {
      run := some { mask := m, testLevel := l, dwell := d, under := some c, periods := 0
                    tallies := { pass := 0, openLoad := 0, shortLoad := 0, skipped := countChannels below } }
      results := results } } rfl rfl
    rw [← cells, forms] at ends
    refine ⟨_, (exec_ready ok ready rfl).trans (congrArg _ (execute_began (parse_paramsOf _ ok) ends)), rfl, fun e => ?_, rfl,
      ⟨now, rfl⟩, rfl⟩
    rw [cells, skippedResults, Tab.get_of, Tab.get_all]
  case completes =>
    have ends := effectStartAudit_completes (l := l) (d := d) on cool skips
    obtain ⟨results, cells⟩ : ∃ x, x = skippedResults (inMask m) (Tab.all .notTested) := ⟨_, rfl⟩
    rw [← cells] at ends
    obtain ⟨levels, marks, tests, exec_row, now⟩ := exec_ready_formed ok ready rfl ends rfl rfl
    refine ⟨_, exec_row, rfl, fun e => ?_, rfl, ⟨now, rfl⟩, rfl⟩
    rw [cells, skippedResults, Tab.get_of, Tab.get_all]
  case refused =>
    refine exec_ready_refused ok ready rfl ?_
    rw [effect, effectStartAudit, if_pos]
    by_contra neither
    rw [not_or] at neither
    exact not ⟨by simpa using neither.1, neither.2⟩
end

section
/-! PROOF. The output period boundary (O24, O25). -/

namespace Sys2Proof.Machine

/-! ### Period reports and the fault monitor (R87, R88) -/

theorem judged_countReport {report : PeriodReport} {tested : Bool} {old new : Monitor}
    (judged : new = settleLatch (countReport report tested old)) :
    (report.driven = false ∨ tested = true ∨ report.sense = none → new = { old with count := 0 })
      ∧ ∀ k, report.driven = true → tested = false → report.sense = some k →
        let count := if 0 < old.count ∧ old.pending = k then old.count + 1 else 1
        new.pending = k
          ∧ (count < 3 → new.count = count ∧ new.latch = old.latch)
          ∧ (3 ≤ count → new.count = 0 ∧ new.latch = match old.latch with | some x => some x | none => some k) := by
  subst judged
  refine ⟨fun idle => ?idle, fun k driven free sensed => ?sensed⟩
  case idle =>
    have zero : countReport report tested old = { old with count := 0 } := by
      unfold countReport
      split
      · rfl
      · next counts =>
        rw [not_or] at counts
        rcases idle with low | low | low
        · exact absurd low counts.1
        · exact absurd low counts.2
        · rw [low]
    rw [zero, settleLatch, if_neg (Nat.not_le.mpr (Nat.zero_lt_succ 2))]
  case sensed =>
    intro count
    have counted : countReport report tested old = { old with count := count, pending := k } := by
      simp only [countReport, driven, free, sensed, Bool.true_eq_false, Bool.false_eq_true, or_self, if_false, count]
      split
      · next same => rw [← same.2]
      · rfl
    rw [counted]
    refine ⟨?_, fun few => ?_, fun many => ?_⟩
    · unfold settleLatch
      split <;> rfl
    · rw [settleLatch, if_neg (by simpa using few)]
      exact ⟨rfl, rfl⟩
    · rw [settleLatch, if_pos many]
      refine ⟨rfl, ?_⟩
      cases old.latch <;> rfl

/-- The reports formed and the monitor records stepped, the boundary's first part. -/
theorem exists_judged (s : State) (peaks : Tab 24 Nat) : ∃ reports monitors,
    stepMonitors (formReports peaks s) = { s with output := { s.output with reports := reports, monitors := monitors } }
      ∧ Judged s peaks { s with output := { s.output with reports := reports, monitors := monitors } } := by
  obtain ⟨reports, report_is⟩ : ∃ x : Tab 24 PeriodReport, x = Tab.of fun c =>
    { driven := s.output.driven.get c, sense := if s.output.driven.get c then senseOf (peaks.get c) else none } := ⟨_, rfl⟩
  obtain ⟨monitors, monitor_is⟩ : ∃ x : Tab 24 Monitor, x = Tab.of fun c =>
    settleLatch (countReport (reports.get c) (s.output.tested.get c) (s.output.monitors.get c)) := ⟨_, rfl⟩
  have forms : stepMonitors (formReports peaks s) =
      { s with output := { s.output with reports := reports, monitors := monitors } } := by
    rw [formReports, ← report_is, stepMonitors, ← monitor_is]
  refine ⟨reports, monitors, forms, fun c => ?_⟩
  intro driven report old new
  have formed : report = { driven := driven, sense := if driven then senseOf (peaks.get c) else none } := by
    simp only [report, driven, report_is, Tab.get_of]
  have judged : new = settleLatch (countReport report (s.output.tested.get c) old) := by
    simp only [new, report, old, monitor_is, Tab.get_of]
  clear_value report new
  obtain ⟨zero, counts⟩ := judged_countReport judged
  subst formed
  refine ⟨rfl, fun low => ?_, fun high => ?_, zero, fun k free sensed => counts k ?_ free sensed⟩
  · simp [low]
  · simp [high, senseOf]
  · by_contra low
    simp [low] at sensed

/-! ### The ramp step (R43, R48 to R50) -/

theorem segmentOf_firstAbove {p : Profile} {level : Level} {g : Segment} (first : FirstAbove p.segments level g) :
    segmentOf p level = g := by
  obtain ⟨below, above, split, under, exceeds⟩ := first
  have none : below.find? (fun x => decide (level.toNat < x.bound)) = none :=
    List.find?_eq_none.mpr fun x there => by simpa using under x there
  rw [segmentOf, split, List.find?_append, none, Option.none_or, List.find?_cons_of_pos (by simpa using exceeds), Option.getD_some]

theorem rampsStepped (s : State) : RampsStepped s (stepRamps s) := by
  refine ⟨fun c => ?_, rfl⟩
  intro r goal new
  have stepped : new = rampBoundary (profileFor s c) (s.target.targets.get c) r := stepRamps_get s c
  clear_value new
  refine ⟨fun steady => ?_, fun waiting => ?_, fun g moving first => ?_⟩
  · rw [stepped, rampBoundary_steady _ _ _ steady]
  · rw [stepped, rampBoundary_waiting _ _ _ waiting]
    exact ⟨rfl, rfl, rfl⟩
  · rw [rampBoundary_moving _ _ _ moving, segmentOf_firstAbove first] at stepped
    obtain ⟨rises, falls, reached⟩ := stepLevel_spec g (s.target.targets.get c) r.level
    have state : new.state = if new.level.toNat = goal then .steady else .moving := by
      rw [stepped]
      exact if_congr (reached.trans BitVec.toNat_inj.symm) rfl rfl
    refine ⟨fun rise => ⟨?_, ?_, state⟩, fun fall => ⟨?_, ?_, state⟩⟩
    · rw [stepped]
    · rw [stepped]
      exact rises (BitVec.lt_def.mpr rise)
    · rw [stepped]
    · rw [stepped]
      exact falls fun less => absurd (BitVec.lt_def.mp less) (Nat.lt_asymm fall)

/-! ### The audit's part and the forming (R85, R92, R100) -/

theorem countPeriod_eq (s : State) : countPeriod s = periodCounted s := by
  unfold countPeriod periodCounted
  split
  · next run running => simp only [running, Option.map_some]
  · next idle =>
    rw [idle, Option.map_none, ← idle]

/-- Neither the ramp step nor the counting of a period sees the other. -/
theorem stepRamps_periodCounted (s : State) : stepRamps (periodCounted s) = periodCounted (stepRamps s) := by
  simp only [stepRamps, periodCounted, profileFor, profileInEffect]

theorem closeDwell_periodCounted {s : State} (goes_on : DwellGoesOn s) : closeDwell (periodCounted s) = periodCounted s := by
  unfold closeDwell
  split
  · next run running =>
    split
    · next c under =>
      obtain ⟨old, ran, rfl⟩ := Option.map_eq_some_iff.mp running
      exact if_neg (Nat.not_le.mpr (goes_on old c ran under))
    · rfl
  · rfl

theorem dwellEnd_periodCounted {s : State} (goes_on : DwellGoesOn s) : dwellEnd (periodCounted s) = periodCounted s := by
  rw [dwellEnd, closeDwell_periodCounted goes_on, drainIfEnded]
  cases (periodCounted s).command.running <;> rfl

/-- The forming of the period that begins. -/
theorem exists_begun (s : State) : ∃ levels driven tested phases,
    beginPeriod s = { s with output := { s.output with levels := levels, driven := driven, tested := tested, phases := phases } }
      ∧ PeriodBegun s { s with output := { s.output with levels := levels, driven := driven, tested := tested, phases := phases } } := by
  obtain ⟨levels, level_is⟩ : ∃ x, x = Tab.of (outputLevel s) := ⟨_, rfl⟩
  obtain ⟨driven, driven_is⟩ : ∃ x : Tab 24 Bool, x = Tab.of fun c => outputLevel s c != 0 := ⟨_, rfl⟩
  obtain ⟨tested, tested_is⟩ : ∃ x, x = Tab.of (isUnderTest s) := ⟨_, rfl⟩
  obtain ⟨phases, phase_is⟩ : ∃ x : Tab 24 (Fin 4), x = Tab.of fun c => (s.active.config.get c).phase := ⟨_, rfl⟩
  refine ⟨levels, driven, tested, phases, ?_, fun c => ?_, rfl⟩
  · rw [beginPeriod, ← level_is, ← driven_is, ← tested_is, ← phase_is]
  · have ruled : ruledLevel { s with output := { s.output with
        levels := levels, driven := driven, tested := tested, phases := phases } } c = outputLevel s c := by
      rw [outputLevel_eq_ruled]
      exact ruledLevel_congr rfl rfl rfl rfl rfl rfl rfl c
    rw [ruled]
    refine ⟨?_, ?_, ?_, ?_⟩
    · rw [level_is, Tab.get_of]
    · rw [phase_is, Tab.get_of]
    · rw [driven_is, Tab.get_of]
    · rw [tested_is, Tab.get_of]
      rfl

theorem periodBegun (s : State) : PeriodBegun s (beginPeriod s) := by
  obtain ⟨_, _, _, _, begins, begun⟩ := exists_begun s
  rw [begins]
  exact begun

/-! ### The three orders (R92, assumption 9) -/

section
variable {s j : State} {peaks : Tab 24 Nat} (runs : blocksRun s = true)
  (judges : stepMonitors (formReports peaks { s with ring := { s.ring with holdLeft := 0 } }) = j)
include runs judges

theorem exec_boundary (order : BoundaryOrder) : exec (.outputPeriodBoundary peaks order) s = .next (match order with
    | .auditFirst => beginPeriod (stepRamps (dwellEnd (periodCounted j)))
    | .rampsFirst => beginPeriod (dwellEnd (periodCounted (stepRamps j)))
    | .drainLast => drainIfEnded j (beginPeriod (closeDwell (periodCounted (stepRamps j))))) := by
  have row : exec (.outputPeriodBoundary peaks order) s
      = .next (if blocksRun s then takeBoundary peaks order (endHold s) else endHold s) := rfl
  have free : endHold s = { s with ring := { s.ring with holdLeft := 0 } } := rfl
  rw [row, if_pos runs, free]
  cases order <;> simp only [takeBoundary, judges, auditBoundary, countPeriod_eq]

/-- Where no dwell ends the three orders come to one boundary. -/
theorem exec_boundary_goesOn (goes_on : DwellGoesOn j) (order : BoundaryOrder) :
    exec (.outputPeriodBoundary peaks order) s = .next (beginPeriod (periodCounted (stepRamps j))) := by
  have later : DwellGoesOn (stepRamps j) := by
    unfold DwellGoesOn
    rw [stepRamps_audit]
    exact goes_on
  rw [exec_boundary runs judges order]
  cases order with
  | auditFirst => simp only [dwellEnd_periodCounted goes_on, stepRamps_periodCounted]
  | rampsFirst => simp only [dwellEnd_periodCounted later]
  | drainLast =>
    have unended : drainIfEnded j (beginPeriod (periodCounted (stepRamps j))) = beginPeriod (periodCounted (stepRamps j)) := by
      have same : (beginPeriod (periodCounted (stepRamps j))).command = j.command := by
        rw [beginPeriod_command, periodCounted, stepRamps_command]
      rw [drainIfEnded, same]
      cases j.command.running <;> rfl
    simp only [closeDwell_periodCounted later, unended]

end

end Sys2Proof.Machine

open Sys2Proof Sys2Proof.Machine

/-- Settles O24: no part of a boundary after the monitors touches them where no dwell ends. -/
theorem boundaryReportsAndConfirms : Obligations.BoundaryReportsAndConfirms := by
  intro s peaks order runs goes_on
  obtain ⟨reports, monitors, judges, judged⟩ := exists_judged { s with ring := { s.ring with holdLeft := 0 } } peaks
  have row := exec_boundary_goesOn runs judges goes_on order
  obtain ⟨levels, driven, tested, phases, begins, -⟩ := exists_begun (periodCounted (stepRamps _))
  rw [begins] at row
  exact ⟨_, row, judged⟩

/-- Settles O25: the parts of a boundary in the three orders. -/
theorem boundaryStepsAndForms : Obligations.BoundaryStepsAndForms := by
  intro s peaks order after
  obtain ⟨reports, monitors, judges, judged⟩ := exists_judged { s with ring := { s.ring with holdLeft := 0 } } peaks
  obtain ⟨j, is_j⟩ : ∃ j, j = { s with
    ring := { s.ring with holdLeft := 0 }, output := { s.output with reports := reports, monitors := monitors } } := ⟨_, rfl⟩
  rw [← is_j] at judges judged
  refine ⟨fun held => ?held, fun runs => ⟨_, j, exec_boundary runs judges order, judged, ?_, fun goes_on => ?goes_on, ?ends⟩⟩
  case held =>
    have row : exec (.outputPeriodBoundary peaks order) s
      = .next (if blocksRun s then takeBoundary peaks order (endHold s) else endHold s) := rfl
    rw [row, if_neg (by rw [held]; exact Bool.false_ne_true)]
    rfl
  case goes_on =>
    have row := exec_boundary runs judges order
    rw [exec_boundary_goesOn runs judges (by rw [is_j]; exact goes_on)] at row
    rw [← Host.Outcome.next.inj row]
    exact ⟨_, rampsStepped j, periodBegun _⟩
  case ends =>
    intro run c r running under late record
    cases order with
    | auditFirst => exact ⟨_, _, rfl, rampsStepped _, periodBegun _⟩
    | rampsFirst => exact ⟨_, _, rampsStepped j, rfl, periodBegun _⟩
    | drainLast =>
      have counted : (periodCounted (stepRamps j)).audit.run = some { run with periods := run.periods + 1 } := by
        simp only [is_j]
        exact congrArg (Option.map _) running
      have closed := dwellClosed_closeDwell (c := c) counted under late
      refine ⟨_, _, _, rampsStepped j, closed, periodBegun _, ?_⟩
      have ran : j.command.running.isSome = true := by
        rw [is_j, record]
        rfl
      have same : (periodCounted (stepRamps j)).command = j.command := by
        rw [periodCounted, stepRamps_command]
      have record_j : (periodCounted (stepRamps j)).command.running = some r := by
        rw [same, is_j]
        exact record
      obtain ⟨goes_on, ends, -, -⟩ := closed
      change drainIfEnded j (beginPeriod (closeDwell (periodCounted (stepRamps j)))) = _
      rcases exists_nextTested_or_skips (periodCounted (stepRamps j)) run.mask (fun e => c < e) with ⟨d, next⟩ | skips
      · obtain ⟨taken, -, command⟩ := goes_on d next
        rw [taken, if_neg (Option.some_ne_none _), drainIfEnded, beginPeriod_command, command, same]
        cases j.command.running <;> rfl
      · obtain ⟨idle, -, unit⟩ := ends skips
        rw [if_pos idle, drainIfEnded_ended ran (by rw [beginPeriod_command, unit r record_j])]
  · rw [is_j]

end

section
/-! PROOF. The command unit under a command, and the draining of its queue (O30). -/

namespace Sys2Proof.Machine

/-! ### What an effect can come to -/

theorem stage_fst (write : TableSet → TableSet) (s : State) :
    (stage write s).1 = s
      ∨ (stage write s).1 = { s with staging := { staged := write s.staging.staged, state := .edited } } := by
  rcases stage_cases write s with ⟨-, staged⟩ | ⟨-, staged⟩ <;> rw [staged]
  · exact .inl rfl
  · exact .inr rfl

theorem validated_fst (s : State) (passed : State × Ended) : (validated s passed).1 = s
    ∨ RefsDefined s.staging.staged s.target.overrides s.streams ∧ (validated s passed).1 = passed.1 := by
  unfold validated
  split
  · exact .inl rfl
  · next passes => exact .inr ⟨(validate_eq_none_iff_refsDefined _ _ _).mp passes, rfl⟩

/-- START AUDIT is refused, begins an audit or completes one at once (R97, R98). -/
theorem effect_startAudit_cases (m : Mask) (l : Level) (d : Nat) (s : State) :
    effect (.startAudit m l d) s = (s, .refused .badState [])
      ∨ (s.output.switchOn = true ∧ s.output.thermal ≠ .hot)
        ∧ ((∃ c tallies results, inMask m c = true ∧ effect (.startAudit m l d) s = (formOutputs { s with audit := {
              run := some { mask := m, testLevel := l, dwell := d, under := some c, periods := 0, tallies := tallies }
              results := results } }, .began))
          ∨ ∃ results x, effect (.startAudit m l d) s
              = (formOutputs { s with audit := { run := none, results := results } }, .done [0, 0, 0, x])) := by
  by_cases may : s.output.switchOn = false ∨ s.output.thermal = .hot
  · exact .inl (if_pos may)
  · obtain ⟨on, cool⟩ := not_or.mp may
    rw [Bool.not_eq_false] at on
    refine .inr ⟨⟨on, cool⟩, ?_⟩
    rcases exists_nextTested_or_skips s m (fun _ => True) with ⟨c, first⟩ | skips
    · exact .inl ⟨c, _, _, first.1, effectStartAudit_begins on cool first rfl⟩
    · exact .inr ⟨_, _, effectStartAudit_completes on cool fun e => skips e trivial⟩

/-- From `s` to `t` the records of the command unit and the audit stay, and the outputs are not switched off. -/
structure Quiet (s t : State) : Prop where
  command : ∃ groups, t.command = { s.command with groups := groups }
  audit : t.audit = s.audit
  switchOn : t.output.switchOn = s.output.switchOn ∨ t.output.switchOn = true

theorem Quiet.of_eq {s t : State} (command : t.command = s.command) (audit : t.audit = s.audit)
    (switchOn : t.output.switchOn = s.output.switchOn) : Quiet s t := ⟨⟨s.command.groups, command⟩, audit, .inl switchOn⟩

theorem Quiet.refl (s : State) : Quiet s s := .of_eq rfl rfl rfl

/-- A command that starts or stops no audit is quiet; its own record is added by its execution (R138). -/
theorem effect_quiet {c : Cmd} (off : c ≠ .outputsOff) (abort : c ≠ .abortAudit) (reset : c ≠ .nodeReset)
    (start : ∀ m l d, c ≠ .startAudit m l d) (s : State) : Quiet s (effect c s).1 := by
  cases c with
  | setGroups l => exact ⟨⟨_, rfl⟩, rfl, .inl rfl⟩
  | writePatch | writeChannel | writeProfile | writeCurve | writeScene =>
    simp only [effect, effectWritePatch, effectWriteChannel, effectWriteProfile, effectWriteCurve, effectWriteScene]
    rcases stage_fst _ s with same | staged
    · rw [same]
      exact .refl s
    · rw [staged]
      exact .of_eq rfl rfl rfl
  | arm e =>
    simp only [effect, effectArm]
    split
    · exact .of_eq rfl rfl rfl
    · rcases validated_fst s ({ s with staging := { s.staging with state := .armed e } }, Ended.done []) with same | ⟨-, armed⟩
      · rw [same]
        exact .refl s
      · rw [armed]
        exact .of_eq rfl rfl rfl
  | disarm =>
    simp only [effect, effectDisarm]
    split <;> exact .of_eq rfl rfl rfl
  | commitNow =>
    have commits : Quiet s (commit s) := .of_eq (commit_command s) (commit_audit s) (commit_output_switchOn s)
    simp only [effect, effectCommitNow]
    split
    · exact .refl s
    · rcases validated_fst s (commit s, Ended.done []) with same | ⟨-, passed⟩
      · rw [same]
        exact .refl s
      · rw [passed]
        exact commits
    · exact commits
  | setStream i e t q =>
    rcases effect_setStream_cases i e t q s with same | ⟨-, applies⟩
    · rw [same]
      exact .refl s
    · rw [applies, applySetStream_keeps]
      exact .of_eq rfl rfl rfl
  | recallScene n m p =>
    rcases effect_recallScene_cases n m p s with same | ⟨-, recalls⟩
    · rw [same]
      exact .refl s
    · rw [recalls]
      exact .of_eq (by rw [recompute_command, sceneRecalled]) (by rw [recompute_audit, sceneRecalled])
        (by rw [recompute_output, sceneRecalled])
  | release m =>
    simp only [effect, effectRelease]
    exact .of_eq (by simp) (by simp) (by simp)
  | outputsOn =>
    simp only [effect, effectOutputsOn]
    exact ⟨⟨s.command.groups, formOutputs_command _⟩, formOutputs_audit _, .inr (by simp)⟩
  | clearFaults | setCeiling =>
    simp only [effect, effectClearFaults, effectSetCeiling]
    exact .of_eq (formOutputs_command _) (formOutputs_audit _) (by simp)
  | startAudit m l d => exact absurd rfl (start m l d)
  | copyActive | read => exact .of_eq rfl rfl rfl
  | outputsOff => exact absurd rfl off
  | abortAudit => exact absurd rfl abort
  | nodeReset => exact absurd rfl reset

/-- A command other than the urgent ones leaves the records of the command unit as they are. -/
theorem effect_records {c : Cmd} (off : c ≠ .outputsOff) (abort : c ≠ .abortAudit) (reset : c ≠ .nodeReset) (s : State) :
    ∃ groups, (effect c s).1.command = { s.command with groups := groups } := by
  by_cases starts : ∃ m l d, c = .startAudit m l d
  · obtain ⟨m, l, d, rfl⟩ := starts
    refine ⟨s.command.groups, ?_⟩
    rcases effect_startAudit_cases m l d s with ends | ⟨-, ⟨c, tallies, results, -, ends⟩ | ⟨results, x, ends⟩⟩ <;>
      rw [ends]
    · exact formOutputs_command _
    · exact formOutputs_command _
  · exact (effect_quiet off abort reset (fun m l d is => starts ⟨m, l, d, is⟩) s).command

/-! ### Commands that wait -/

theorem parseReadItem_nodeStatus {item set index part : Byte} (read : parseReadItem item set index part = some .nodeStatus) :
    item = 8 := by
  by_contra other
  unfold parseReadItem at read
  repeat
    obtain ⟨-, read⟩ | ⟨-, read⟩ := ite_eq_iff.mp read
    · simp [guardSome, Option.bind_eq_some_iff] at read
  obtain ⟨here, -⟩ | ⟨-, read⟩ := ite_eq_iff.mp read
  · exact other here
  · cases read

/-- The command that a READ of node status spells. -/
theorem parse_nodeStatus {code : Byte} {p : List Byte} (read : parse code p = .ok (.read .nodeStatus)) :
    code = 20 ∧ p.length = 4 ∧ p.head? = some 8 := by
  obtain ⟨rfl, -, -⟩ := parse_accepts read
  have parsed : parseRead p = some (.read .nodeStatus) := by
    cases parsed : parseRead p with
    | none => rw [parse_eq_badParam (f := parseRead) rfl parsed] at read; cases read
    | some c => rw [parse_eq_ok (f := parseRead) rfl parsed] at read; cases read; rfl
  unfold parseRead at parsed
  split at parsed
  · obtain ⟨x, item, same⟩ := Option.map_eq_some_iff.mp parsed
    cases same
    rw [parseReadItem_nodeStatus item]
    exact ⟨rfl, rfl, rfl⟩
  · cases parsed

/-- A queued record as the taking of a command leaves it, of a command that queues (R138, R139). -/
def Waits (r : Record) : Prop :=
  r.status = .queued ∧ r.result = none ∧ r.data = [] ∧ r.params.length ≤ 64 ∧ r.code ≠ 15 ∧ r.code ≠ 18 ∧ r.code ≠ 21
    ∧ ¬ (r.code = 20 ∧ r.params.length = 4 ∧ r.params.head? = some 8)

theorem Waits.eq {r : Record} (waits : Waits r) :
    r = { seq := r.seq, code := r.code, status := .queued, result := none, data := [], params := r.params } := by
  obtain ⟨status, result, data, -⟩ := waits
  rw [← status, ← result, ← data]

theorem Waits.normal {r : Record} (waits : Waits r) :
    isUrgent r.code = false ∧ isNodeStatusRead r.code r.params = false := by
  obtain ⟨-, -, -, -, off, abort, reset, status⟩ := waits
  exact ⟨isUrgent_eq_false off abort reset, isNodeStatusRead_eq_false status⟩

/-- A command that waits is none of those that are taken at once. -/
theorem Waits.command {r : Record} (waits : Waits r) {c : Cmd} (right : parse r.code r.params = .ok c) :
    c ≠ .outputsOff ∧ c ≠ .abortAudit ∧ c ≠ .nodeReset ∧ c ≠ .read .nodeStatus := by
  obtain ⟨-, -, -, -, off, abort, reset, status⟩ := waits
  obtain ⟨code, -, -⟩ := parse_accepts right
  refine ⟨?_, ?_, ?_, ?_⟩ <;> rintro rfl
  · exact off code.symm
  · exact abort code.symm
  · exact reset code.symm
  · exact status (parse_nodeStatus right)

/-- The state with another command queue. -/
def withQueue (w : List Record) (s : State) : State := { s with command := { s.command with queue := w } }

theorem effect_withQueue {c : Cmd} (reset : c ≠ .nodeReset) (status : c ≠ .read .nodeStatus) (w : List Record) (s : State) :
    effect c (withQueue w s) = (withQueue w (effect c s).1, (effect c s).2) := by
  have requeues := effect_requeued s.pending s.ring s.tickCount s.freeCount w s reset status
  rw [show requeued s.pending s.ring s.tickCount s.freeCount w (effect c s).1 = withQueue w (effect c s).1 by
    rw [effect_keeps]; rfl] at requeues
  exact requeues

/-- A command that waits does not see what waits with it. -/
theorem execute_withQueue {r : Record} (waits : Waits r) (w : List Record) (s : State) :
    execute r.seq r.code r.params (withQueue w s) = withQueue w (execute r.seq r.code r.params s) := by
  unfold execute
  cases right : parse r.code r.params with
  | error e => rfl
  | ok c =>
    obtain ⟨-, -, reset, status⟩ := waits.command right
    dsimp only
    rw [effect_withQueue reset status w s]
    obtain ⟨t, ended⟩ := effect c s
    cases ended <;> rfl

theorem mem_appended {l : List Record} {r x : Record} (there : x ∈ appended l r) : x ∈ l ∨ x = r := by
  unfold appended at there
  split at there
  · simpa using there
  · rcases List.mem_append.mp there with inside | last
    · exact .inl (List.mem_of_mem_tail inside)
    · exact .inr (by simpa using last)

theorem mem_heldRecords {u : CommandUnit} {x : Record} :
    x ∈ heldRecords u ↔ u.running = some x ∨ x ∈ u.queue ∨ x ∈ u.replies := by
  simp [heldRecords]

theorem mem_heldRecords_withReply {u : CommandUnit} {r x : Record} (there : x ∈ heldRecords (withReply u r)) :
    x ∈ heldRecords u ∨ x = r := by
  rw [mem_heldRecords] at there ⊢
  rcases there with runs | waits | replied
  · exact .inl (.inl runs)
  · exact .inl (.inr (.inl waits))
  · exact (mem_appended replied).imp (fun inside => .inr (.inr inside)) id

section
variable {r : Record} (waits : Waits r) (s : State)

theorem execute_ring (seq code : Byte) (params : List Byte) : (execute seq code params s).ring = s.ring :=
  execute_induction (P := fun t => t.ring = s.ring) (fun _ _ _ same => same) (fun _ _ c t _ same => (effect_ring c t).trans same)
    seq code params s rfl

include waits

/-- What the execution of a waiting command does to the command unit: its record is added, in the running slot or the reply
list, and the group set may change (R138, R142). -/
theorem execute_records : ∃ groups record, record.seq = r.seq
    ∧ ((execute r.seq r.code r.params s).command = withReply { s.command with groups := groups } record
      ∨ (execute r.seq r.code r.params s).command = { s.command with groups := groups, running := some record }) := by
  rcases execute_cases r.seq r.code r.params s with ⟨e, -, ends⟩ | ⟨c, right, ends⟩
  · exact ⟨s.command.groups, refusedRecord r.seq r.code e [], rfl, .inl (by rw [ends, reply, addReply_eq]; rfl)⟩
  · obtain ⟨off, abort, reset, -⟩ := waits.command right
    obtain ⟨groups, unit⟩ := effect_records off abort reset s
    rcases ends with ⟨data, -, ends⟩ | ⟨e, data, -, ends⟩ | ⟨-, ends⟩
    · exact ⟨groups, doneRecord r.seq r.code data, rfl, .inl (by rw [ends, reply, addReply_eq, ← unit]; rfl)⟩
    · exact ⟨groups, refusedRecord r.seq r.code e data, rfl, .inl (by rw [ends, reply, addReply_eq, ← unit]; rfl)⟩
    · exact ⟨groups, { seq := r.seq, code := r.code, status := .running, result := none, data := [], params := [] }, rfl,
        .inr (by rw [ends]; dsimp only; rw [unit])⟩

theorem execute_queue : (execute r.seq r.code r.params s).command.queue = s.command.queue := by
  obtain ⟨groups, record, -, unit | unit⟩ := execute_records waits s <;> rw [unit]
  rfl

/-- A number that is free stays free but for the one of the command executed. -/
theorem execute_seqFree {x : Byte} (other : x ≠ r.seq) (free : SeqFree s.command x) :
    SeqFree (execute r.seq r.code r.params s).command x := by
  intro y there
  obtain ⟨groups, record, same, unit | unit⟩ := execute_records waits s
  · rw [unit] at there
    rcases mem_heldRecords_withReply there with held | rfl
    · exact free y held
    · rw [same]
      exact other.symm
  · rw [unit, mem_heldRecords] at there
    rcases there with runs | held
    · rw [← Option.some.inj runs, same]
      exact other.symm
    · exact free y (mem_heldRecords.mpr (.inr held))

end

/-! ### Draining is sending in order (R140) -/

/-- Behind a running audit the commands sent queue in order (R139). -/
theorem sentInOrder_busy (w : List Record) (s : State) (hears : ringConnected s = true) (busy : s.command.running ≠ none)
    (room : s.command.queue.length + w.length ≤ 4) (waits : ∀ r ∈ w, Waits r) (distinct : (w.map Record.seq).Nodup)
    (free : ∀ r ∈ w, SeqFree s.command r.seq) : sentInOrder w s = withQueue (s.command.queue ++ w) s := by
  induction w generalizing s with
  | nil => rw [List.append_nil]; rfl
  | cons r rest ih =>
    rw [List.map_cons, List.nodup_cons] at distinct
    rw [List.length_cons] at room
    have waits_r := waits r List.mem_cons_self
    have next : sentInOrder rest (withQueue (s.command.queue ++ [r]) s) = withQueue (s.command.queue ++ r :: rest) s := by
      rw [ih (withQueue (s.command.queue ++ [r]) s) hears busy]
      · simp [withQueue]
      · simp only [withQueue, List.length_append, List.length_singleton]
        omega
      · exact fun x there => waits x (List.mem_cons_of_mem _ there)
      · exact distinct.2
      · intro x there y held
        simp only [withQueue, mem_heldRecords, List.mem_append, List.mem_singleton] at held
        have other : x.seq ≠ r.seq := fun same => distinct.1 (same ▸ List.mem_map_of_mem there)
        have others := free x (List.mem_cons_of_mem _ there)
        rcases held with runs | (inside | rfl) | replied
        · exact others y (mem_heldRecords.mpr (.inl runs))
        · exact others y (mem_heldRecords.mpr (.inr (.inl inside)))
        · exact other.symm
        · exact others y (mem_heldRecords.mpr (.inr (.inr replied)))
    rw [sentInOrder]
    cases named : commandOf r.code r.seq r.params with
    | none =>
      dsimp only
      rw [if_neg busy]
      exact next
    | some c =>
      obtain ⟨normal, status⟩ := waits_r.normal
      have taken := takeCommand_queued (free r List.mem_cons_self) normal status busy (by omega)
      rw [← waits_r.eq] at taken
      dsimp only
      rw [exec_commandOf named, commandRow_heard hears waits_r.2.2.2.1, taken]
      exact next

/-- With nothing running the commands sent are executed, up to one that begins an audit (R139, R140). -/
theorem drainQueue_eq_sentInOrder (w : List Record) (s : State) (hears : ringConnected s = true)
    (idle : s.command.running = none) (empty : s.command.queue = []) (few : w.length ≤ 4) (waits : ∀ r ∈ w, Waits r)
    (distinct : (w.map Record.seq).Nodup) (free : ∀ r ∈ w, SeqFree s.command r.seq) :
    drainQueue w.length (withQueue w s) = sentInOrder w s := by
  induction w generalizing s with
  | nil => exact (congrArg (fun q => withQueue q s) empty.symm)
  | cons r rest ih =>
    rw [List.map_cons, List.nodup_cons] at distinct
    rw [List.length_cons] at few
    have waits_r := waits r List.mem_cons_self
    have sent : sentInOrder (r :: rest) s = sentInOrder rest (execute r.seq r.code r.params s) := by
      rw [sentInOrder]
      cases named : commandOf r.code r.seq r.params with
      | none =>
        dsimp only
        rw [if_pos idle, execute_error (parse_unknown named)]
      | some c =>
        obtain ⟨normal, status⟩ := waits_r.normal
        dsimp only
        rw [exec_commandOf named, commandRow_ready ⟨hears, idle, free r List.mem_cons_self⟩ waits_r.2.2.2.1]
    obtain ⟨t, executes⟩ : ∃ t, t = execute r.seq r.code r.params s := ⟨_, rfl⟩
    have drained : execute r.seq r.code r.params (withQueue rest s) = withQueue rest t := by
      rw [execute_withQueue waits_r, executes]
    have hears_t : ringConnected t = true := by
      rw [ringConnected, executes, execute_ring]
      exact hears
    have empty_t : t.command.queue = [] := by rw [executes, execute_queue waits_r, empty]
    have free_t : ∀ x ∈ rest, SeqFree t.command x.seq := fun x there => by
      rw [executes]
      exact execute_seqFree waits_r s (fun same => distinct.1 (same ▸ List.mem_map_of_mem there))
        (free x (List.mem_cons_of_mem _ there))
    have waits_rest : ∀ x ∈ rest, Waits x := fun x there => waits x (List.mem_cons_of_mem _ there)
    rw [sent, List.length_cons, drainQueue_cons _ _ r rest rfl]
    rw [show { withQueue (r :: rest) s with command := { (withQueue (r :: rest) s).command with queue := rest } }
      = withQueue rest s from rfl, drained, ← executes]
    dsimp only
    cases begun : t.command.running with
    | none =>
      rw [if_neg (by simp [withQueue, begun])]
      exact ih t hears_t begun empty_t (by omega) waits_rest distinct.2 free_t
    | some record =>
      rw [if_pos (by simp [withQueue, begun]), sentInOrder_busy rest t hears_t (by simp [begun]) (by simp [empty_t]; omega)
        waits_rest distinct.2 free_t, empty_t]
      rfl

end Sys2Proof.Machine

open Sys2Proof Sys2Proof.Machine

/-- Settles O30: by induction on the queue. -/
theorem drainingIsSendingInOrder : Obligations.DrainingIsSendingInOrder := by
  intro s hears idle few distinct waits
  rw [heldRecords, idle, Option.toList_none, List.nil_append, List.map_append, List.nodup_append] at distinct
  obtain ⟨distinct_queue, -, apart⟩ := distinct
  refine drainQueue_eq_sentInOrder s.command.queue { s with command := { s.command with queue := [] } } hears idle rfl few waits
    distinct_queue fun r there x held => ?_
  rcases mem_heldRecords.mp held with runs | inside | replied
  · rw [idle] at runs
    cases runs
  · cases inside
  · exact (apart _ (List.mem_map_of_mem there) _ (List.mem_map_of_mem replied)).symm
end

section
/-! PROOF. What keeps a property of the blocks that neither the ring interface nor the command unit matters to: one obligation
for each part of a command's effect and of the timed events. -/

namespace Sys2Proof.Machine

/-- What a table write, ARM, DISARM or COPY ACTIVE makes of the staging unit (R115, R121, R124, R125). -/
inductive StagingStep (s : State) : StagingUnit → Prop
  | write (x : TableSet) (form : TableSetOk s.staging.staged → TableSetOk x) : StagingStep s { staged := x, state := .edited }
  | arm (e : BitVec 16) (valid : (∃ d, s.staging.state = .armed d)
      ∨ RefsDefined s.staging.staged s.target.overrides s.streams) : StagingStep s { s.staging with state := .armed e }
  | disarm : StagingStep s { s.staging with state := .edited }
  | copy : StagingStep s { staged := s.active, state := .clean }

/-- The monitor records of an output stage have confirm counts below 3 or no higher than another's (R88). -/
def CountsWithin (o p : OutputStage) : Prop :=
  ∀ c, (o.monitors.get c).count < 3 ∨ (o.monitors.get c).count ≤ (p.monitors.get c).count

theorem CountsWithin.of_eq {o p : OutputStage} (same : o.monitors = p.monitors) : CountsWithin o p :=
  fun c => .inr (by rw [same])

theorem settleLatch_count (m : Monitor) : (settleLatch m).count < 3 ∧ (settleLatch m).count ≤ m.count := by
  unfold settleLatch
  split
  · exact ⟨Nat.zero_lt_succ 2, Nat.zero_le _⟩
  · next few => exact ⟨Nat.not_le.mp few, le_rfl⟩

/-- A command unit whose group set is that of another, or one that SET GROUPS makes (R146). -/
def GroupsFrom (u v : CommandUnit) : Prop :=
  u.groups = v.groups ∨ ∃ l, CmdOk (.setGroups l) ∧ u.groups = ((List.range 64).map byteOf).filter fun g => l.contains g

/-- Each part of the effect of a command keeps the property; of the ring interface and the command unit only the ranges
matter. -/
structure KeptByCommands (P : State → Prop) : Prop where
  link : ∀ s p r k n u, (RingOk s.ring → RingOk r) → GroupsFrom u s.command → P s → P { s with pending := p, ring := r, tickCount := k, freeCount := n, command := u }
  staging : ∀ s x, StagingStep s x → P s → P { s with staging := x }
  commit : ∀ s, ((∃ e, s.staging.state = .armed e) ∨ RefsDefined s.staging.staged s.target.overrides s.streams) → P s →
    P (commit s)
  setStream : ∀ i e t q s, t ≠ .ticks 0 → policyNamed s q = true → P s → P (applySetStream i e t q s)
  scene : ∀ n m p s, profileNamed s p = true → P s → P (recompute (recalled s n m) (sceneRecalled s n m p))
  release : ∀ m s, P s → P (effect (.release m) s).1
  formed : ∀ s o a, CountsWithin o s.output → P s → P (formOutputs { s with output := o, audit := a })
  reset : ∀ s th, P s → P { State.reset with output := OutputStage.reset th, ring := s.ring, command := s.command }

/-- Each part of a timed event keeps it as well. -/
structure KeptByParts (P : State → Prop) : Prop extends KeptByCommands P where
  arrival : ∀ i slots s, (s.streams.get i).state ≠ .disabled → P s → P (arrival i slots s)
  tick : ∀ order s, P s → P (takeTick order s)
  expiry : ∀ i s, P s → P (examineExpiry i s)
  boundary : ∀ peaks order s, P s → P (takeBoundary peaks order s)
  delay : ∀ (c : Channel) s, P s → P { s with ramps := s.ramps.put c (delayExpiry (s.ramps.get c)) }

/-! ### The form of a written item (R2, R25, R43) -/

section
variable {t : TableSet} (form : TableSetOk t)
include form

theorem TableSetOk.withPatch (k : Key) {e : Option PatchEntry} (ok : CmdOk (.writePatch k e)) :
    TableSetOk { t with patch := t.patch.put k e } := by
  obtain ⟨patch, profiles, scenes⟩ := form
  refine ⟨fun j x there => ?_, profiles, scenes⟩
  rw [Tab.get_put] at there
  split at there
  · subst there
    exact ok
  · exact patch j x there

theorem TableSetOk.withProfile (n : Fin 15) {p : Option Profile} (ok : CmdOk (.writeProfile n p)) :
    TableSetOk { t with profiles := t.profiles.put n p } := by
  obtain ⟨patch, profiles, scenes⟩ := form
  refine ⟨patch, fun m x there => ?_, scenes⟩
  rw [Tab.get_put] at there
  split at there
  · subst there
    exact ok
  · exact profiles m x there

theorem TableSetOk.withScene (n : Fin 8) {y : Option Scene} (ok : CmdOk (.writeScene n y)) :
    TableSetOk { t with scenes := t.scenes.put n y } := by
  obtain ⟨patch, profiles, scenes⟩ := form
  refine ⟨patch, profiles, fun m x there => ?_⟩
  rw [Tab.get_put] at there
  split at there
  · subst there
    exact ok
  · exact scenes m x there

end

theorem endAudit_groups (result : ResultCode) (s : State) : (endAudit result s).command.groups = s.command.groups := by
  unfold endAudit
  cases s.audit.run with
  | none => rfl
  | some run => cases s.command.running <;> rfl

theorem abortAudit_groups (s : State) : (abortAudit s).command.groups = s.command.groups := by
  unfold abortAudit
  cases s.audit.run with
  | none => rfl
  | some run => exact endAudit_groups _ _

namespace KeptByCommands

variable {P : State → Prop} (kept : KeptByCommands P)
include kept

/-! ### Commands -/

theorem unit (s : State) (u : CommandUnit) (groups : GroupsFrom u s.command) (h : P s) : P { s with command := u } :=
  kept.link s _ _ _ _ u id groups h

theorem stage (write : TableSet → TableSet) (s : State) (form : TableSetOk s.staging.staged → TableSetOk (write s.staging.staged))
    (h : P s) : P (stage write s).1 := by
  rcases stage_fst write s with same | staged
  · rwa [same]
  · rw [staged]
    exact kept.staging s _ (.write _ form) h

/-- The abort of an audit, with the levels formed afterwards. -/
theorem aborted (s : State) (o : OutputStage) (few : CountsWithin o s.output) (h : P s) :
    P (formOutputs (abortAudit { s with output := o })) := by
  rw [abortAudit_keeps]
  exact kept.formed { s with command := (abortAudit { s with output := o }).command } o _ few
    (kept.unit s _ (.inl (abortAudit_groups _)) h)

theorem ended (result : ResultCode) (s : State) (o : OutputStage) (a : AuditUnit) (few : CountsWithin o s.output) (h : P s) :
    P (formOutputs (endAudit result { s with output := o, audit := a })) := by
  rw [endAudit_keeps]
  exact kept.formed { s with command := (endAudit result { s with output := o, audit := a }).command } o _ few
    (kept.unit s _ (.inl (endAudit_groups _ _)) h)

theorem effect {c : Cmd} (ok : CmdOk c) (s : State) (h : P s) : P (effect c s).1 := by
  cases c with
  | setGroups l => exact kept.unit s _ (.inr ⟨l, ok, rfl⟩) h
  | writePatch k e =>
    rw [Machine.effect, effectWritePatch]
    exact kept.stage _ s (fun form => form.withPatch k ok) h
  | writeChannel k g =>
    rw [Machine.effect, effectWriteChannel]
    exact kept.stage _ s (fun ⟨patch, profiles, scenes⟩ => ⟨patch, profiles, scenes⟩) h
  | writeProfile n p =>
    rw [Machine.effect, effectWriteProfile]
    exact kept.stage _ s (fun form => form.withProfile n ok) h
  | writeCurve n p =>
    rw [Machine.effect, effectWriteCurve]
    exact kept.stage _ s (fun ⟨patch, profiles, scenes⟩ => ⟨patch, profiles, scenes⟩) h
  | writeScene n x =>
    rw [Machine.effect, effectWriteScene]
    exact kept.stage _ s (fun form => form.withScene n ok) h
  | copyActive => exact kept.staging s _ .copy h
  | arm e =>
    simp only [Machine.effect, effectArm]
    split
    · next d armed => exact kept.staging s _ (.arm e (.inl ⟨d, armed⟩)) h
    · rcases validated_fst s ({ s with staging := { s.staging with state := .armed e } }, Ended.done []) with same | ⟨valid, armed⟩
      · rwa [same]
      · rw [armed]
        exact kept.staging s _ (.arm e (.inr valid)) h
  | disarm =>
    simp only [Machine.effect, effectDisarm]
    split
    · exact kept.staging s _ .disarm h
    · exact h
  | commitNow =>
    simp only [Machine.effect, effectCommitNow]
    split
    · exact h
    · rcases validated_fst s (Machine.commit s, Ended.done []) with same | ⟨valid, commits⟩
      · rwa [same]
      · rw [commits]
        exact kept.commit s (.inr valid) h
    · next d armed => exact kept.commit s (.inl ⟨d, armed⟩) h
  | setStream i e t q =>
    rcases effect_setStream_cases i e t q s with same | ⟨named, applies⟩
    · rwa [same]
    · rw [applies]
      exact kept.setStream i e t q s ok named h
  | recallScene n m p =>
    rcases effect_recallScene_cases n m p s with same | ⟨named, recalls⟩
    · rwa [same]
    · rw [recalls]
      exact kept.scene n m p s named h
  | release m => exact kept.release m s h
  | outputsOn => exact kept.formed s { s.output with switchOn := true } s.audit (.of_eq rfl) h
  | setCeiling l => exact kept.formed s { s.output with ceiling := l } s.audit (.of_eq rfl) h
  | clearFaults m =>
    refine kept.formed s { s.output with monitors := _ } s.audit (fun c => ?_) h
    rw [Tab.get_of]
    dsimp only
    split
    · exact .inl (Nat.zero_lt_succ 2)
    · exact .inr le_rfl
  | outputsOff => exact kept.aborted s { s.output with switchOn := false } (.of_eq rfl) h
  | abortAudit =>
    simp only [Machine.effect, effectAbortAudit]
    split
    · exact kept.aborted s s.output (.of_eq rfl) h
    · exact h
  | startAudit m l d =>
    rcases effect_startAudit_cases m l d s with ends | ⟨-, ⟨c, tallies, results, -, ends⟩ | ⟨results, x, ends⟩⟩ <;> rw [ends]
    · exact h
    · exact kept.formed s s.output _ (.of_eq rfl) h
    · exact kept.formed s s.output _ (.of_eq rfl) h
  | read x => exact h
  | nodeReset =>
    exact kept.link { State.reset with output := OutputStage.reset s.output.thermal, ring := s.ring, command := s.command }
      s.pending s.ring s.tickCount s.freeCount { s.command with running := none, queue := [], replies := [] } id (.inl rfl)
      (kept.reset s s.output.thermal h)

theorem byEffects : KeptByEffects P where
  unit := fun s u groups => kept.unit s u (.inl groups)
  effect := fun _ _ _ s right h =>
    have ⟨_, ok, _⟩ := parse_accepts right
    kept.effect ok s h

/-! ### Timed events -/

theorem closeDwell (s : State) (h : P s) : P (closeDwell s) := by
  unfold Machine.closeDwell
  split
  · next run running =>
    split
    · next c under =>
      split
      · obtain ⟨audit, taken⟩ : ∃ a, classifyAndTake run c s = { s with audit := a } :=
          ⟨(classifyAndTake run c s).audit, by simp only [classifyAndTake, takeNext]⟩
        dsimp only
        rw [taken]
        split
        · exact kept.formed s s.output _ (.of_eq rfl) h
        · exact kept.ended .ok s s.output _ (.of_eq rfl) h
      · exact h
    · exact h
  · exact h

/-- A boundary keeps what neither the output stage, its counts apart, nor the audit matters to, where the ramp step does. -/
theorem boundary (outputs : ∀ s o a, CountsWithin o s.output → P s → P { s with output := o, audit := a })
    (ramped : ∀ s, P s → P (stepRamps s)) (peaks : Tab 24 Nat) (order : BoundaryOrder) (s : State) (h : P s) :
    P (takeBoundary peaks order s) := by
  have judges : P (stepMonitors (formReports peaks s)) := by
    have frame : stepMonitors (formReports peaks s) = { s with output := (stepMonitors (formReports peaks s)).output } := by
      simp only [stepMonitors, formReports]
    rw [frame]
    exact outputs s _ s.audit (fun c => .inl (by rw [stepMonitors_get]; exact (settleLatch_count _).1)) h
  have begins (s : State) (h : P s) : P (beginPeriod s) := by
    have frame : beginPeriod s = { s with output := (beginPeriod s).output } := by simp only [beginPeriod]
    rw [frame]
    exact outputs s _ s.audit (.of_eq (by simp)) h
  have counts (s : State) (h : P s) : P (countPeriod s) := by
    rw [countPeriod_eq]
    exact outputs s s.output _ (.of_eq rfl) h
  have audits (s : State) (h : P s) : P (auditBoundary s) := kept.byEffects.dwellEnd _ (kept.closeDwell _ (counts s h))
  unfold takeBoundary
  dsimp only
  split
  · exact begins _ (ramped _ (audits _ judges))
  · exact begins _ (audits _ (ramped _ judges))
  · exact kept.byEffects.drainIfEnded _ _ (begins _ (kept.closeDwell _ (counts _ (ramped _ judges))))

/-- Power-on and the release of RESETN bring the reset state, the ring interface in its ranges and no group (R190). -/
theorem poweredOn (s : State) (new : Thermal) (h : P s) : P { powerOnState s with output := OutputStage.reset new } := by
  rw [powerOnState_eq]
  refine kept.link { State.reset with output := OutputStage.reset new, ring := s.ring, command := s.command } s.pending _ _
    s.freeCount CommandUnit.reset (fun ⟨_, up, _, most⟩ => ⟨Nat.zero_le _, up, fun _ => rfl, most⟩) (.inr ⟨[], ?_, ?_⟩)
    (kept.reset s new h)
  · exact ⟨Nat.zero_le _, List.nodup_nil, nofun⟩
  · simp [CommandUnit.reset]

end KeptByCommands

namespace KeptByParts

variable {P : State → Prop} (kept : KeptByParts P)
include kept

theorem byRows : Kept P where
  ring := fun s r moved h => kept.link s _ r _ _ _ moved.ranges (.inl rfl) h
  switch := fun s r ranges h => kept.link s _ r _ _ _ ranges (.inl rfl) h
  arrival := kept.arrival
  command := kept.byEffects.takeCommand
  commit := fun s e armed h => kept.commit s (.inl ⟨e, armed⟩) h
  counts := fun s k n h => kept.link s _ _ k n _ id (.inl rfl) h
  tick := kept.tick
  expiry := kept.expiry
  boundary := kept.boundary
  delay := kept.delay
  latch := fun c s h => by
    refine kept.formed s { s.output with monitors := s.output.monitors.put c (settleLatch (s.output.monitors.get c)) } s.audit
      (fun d => ?_) h
    rw [Tab.get_put]
    split
    · exact .inl (settleLatch_count _).1
    · exact .inr le_rfl
  dwell := fun s h => kept.byEffects.dwellEnd s (kept.closeDwell s h)
  complete := fun s h => by
    unfold completeAudit
    split
    · exact kept.byEffects.drainIfEnded s _ (kept.ended .ok s s.output s.audit (.of_eq rfl) h)
    · exact h
  thermal := fun new s h => by
    unfold changeThermal
    dsimp only
    split
    · exact kept.byEffects.drainIfEnded s _ (kept.aborted s { s.output with thermal := new } (.of_eq rfl) h)
    · exact kept.formed s { s.output with thermal := new } s.audit (.of_eq rfl) h
  reset := fun s h => kept.poweredOn s s.output.thermal h
  sensor := fun new s h => kept.poweredOn s new h

/-- A step keeps what its parts keep. -/
theorem step {s t : State} (h : P s) (run : step s = .next t) : P t :=
  kept.byRows.step (fun s p h => kept.link s p _ _ _ _ id (.inl rfl) h) s t h run

end KeptByParts

end Sys2Proof.Machine

end

section
/-! PROOF. Every step keeps the output levels by their rule and the ramp records (O4, O5). -/

namespace Sys2Proof.Machine

/-! ### The level path, seen by the ramps and the outputs -/

/-- The property survives other streams, contributions and overrides, and the recomputation of targets. -/
structure KeptByRecompute (P : State → Prop) : Prop where
  inputs : ∀ s x y o, P s → P { s with streams := x, patch := y, target := { s.target with overrides := o } }
  recompute : ∀ p s, P s → P (recompute p s)

namespace KeptByRecompute

variable {P : State → Prop} (kept : KeptByRecompute P)
include kept

theorem streams (s : State) (x : Tab 16 StreamRecord) (h : P s) : P { s with streams := x } := kept.inputs s x _ _ h

theorem overrides (s : State) (o : Tab 24 (Option Override)) (h : P s) : P { s with target := { s.target with overrides := o } } :=
  kept.inputs s _ _ o h

theorem reverseLoss (i : StreamId) (s : State) (h : P s) : P (reverseLoss i s) := by
  obtain ⟨o, reverses, -⟩ := exists_reversed i s
  rw [reverses]
  exact kept.overrides s o h

theorem applyLossScene (i : StreamId) (n : Fin 8) (s : State) (h : P s) : P (applyLossScene i n s) := kept.overrides s _ h

theorem applyLoss (i : StreamId) (s : State) (h : P s) : P (applyLoss i s) := by
  unfold Machine.applyLoss
  split
  · exact h
  · exact kept.recompute _ s h
  · exact kept.recompute _ _ (kept.applyLossScene i _ s h)

theorem expiry (i : StreamId) (s : State) (h : P s) : P (examineExpiry i s) := by
  unfold examineExpiry
  split
  · exact kept.applyLoss i _ (kept.streams s _ h)
  · exact h

theorem tick (order : List StreamId) (s : State) (h : P { s with tickCount := s.tickCount + 1 }) : P (takeTick order s) := by
  have counted := kept.streams _ (countTicks { s with tickCount := s.tickCount + 1 }).streams h
  unfold takeTick
  generalize order ++ List.finRange 16 = turn
  induction turn using List.reverseRecOn with
  | nil => exact counted
  | append_singleton turn i ih =>
    rw [List.foldl_append]
    exact kept.expiry i _ ih

theorem disableStream (i : StreamId) (r : StreamRecord) (s : State) (h : P s) : P (disableStream i r s) := by
  unfold Machine.disableStream
  exact kept.recompute _ _ (kept.reverseLoss i _ (kept.inputs s _ _ _ h))

theorem changeLostPolicy (i : StreamId) (old : LossPolicy) (s : State) (h : P s) : P (changeLostPolicy i old s) := by
  unfold Machine.changeLostPolicy
  dsimp only
  split
  · exact h
  · split
    · exact kept.recompute _ _ (kept.applyLossScene i _ _ (kept.reverseLoss i s h))
    · exact kept.recompute _ _ (kept.reverseLoss i s h)

theorem setStream (i : StreamId) (e : Bool) (t : TimeoutSetting) (q : LossPolicy) (s : State) (h : P s) :
    P (applySetStream i e t q s) := by
  unfold applySetStream
  dsimp only
  split
  · exact kept.streams s _ h
  · exact kept.streams s _ h
  · exact kept.streams s _ h
  · exact kept.expiry i _ (kept.streams s _ h)
  · exact kept.changeLostPolicy i _ _ (kept.streams s _ h)
  · exact kept.disableStream i _ s h

theorem arrival (i : StreamId) (slots : List Byte) (s : State) (h : P s) : P (arrival i slots s) := by
  have taken : P (takeValues i slots (Machine.setStream i (arrivalRecord (s.streams.get i)) s)) := kept.inputs s _ _ _ h
  unfold Machine.arrival
  dsimp only
  split
  · exact kept.recompute _ _ (kept.reverseLoss i _ taken)
  · exact kept.recompute _ _ taken

theorem scene (n : Fin 8) (m : Option Mask) (p : Option (Fin 16)) (s : State) (h : P s) :
    P (Machine.recompute (recalled s n m) (sceneRecalled s n m p)) := kept.recompute _ _ (kept.overrides s _ h)

theorem release (m : Mask) (s : State) (h : P s) : P (effect (.release m) s).1 := by
  have reexamined (chosen : Channel → Bool) : P (reexamine chosen (removeOverrides chosen s)) := by
    have frame : reexamine chosen (removeOverrides chosen s) = { s with target := { s.target with
        overrides := (reexamine chosen (removeOverrides chosen s)).target.overrides } } := by
      simp only [reexamine, removeOverrides]
    rw [frame]
    exact kept.overrides s _ h
  simp only [effect, effectRelease]
  exact kept.recompute _ _ (reexamined _)

end KeptByRecompute

/-! ### Output levels (R84, R85) -/

theorem outputsOk_formOutputs (s : State) : OutputsOk (formOutputs s) := fun c => by
  rw [(formOutputs_get s c).1, outputLevel_eq_ruled, ruledLevel_formOutputs]

theorem outputsOk_beginPeriod (s : State) : OutputsOk (beginPeriod s) := fun c => ((periodBegun s).1 c).1

/-- The rule reads the ramp levels alone of the ramp records. -/
theorem ruledLevel_ramps {s t : State} (output : t.output = s.output) (active : t.active = s.active) (audit : t.audit = s.audit)
    (levels : ∀ c, (t.ramps.get c).level = (s.ramps.get c).level) (c : Channel) : ruledLevel t c = ruledLevel s c := by
  unfold ruledLevel
  rw [output, active, audit, levels c]

theorem OutputsOk.of_ramps {s t : State} (h : OutputsOk s) (output : t.output = s.output) (active : t.active = s.active)
    (audit : t.audit = s.audit) (levels : ∀ c, (t.ramps.get c).level = (s.ramps.get c).level) : OutputsOk t := fun c => by
  rw [ruledLevel_ramps output active audit levels, output]
  exact h c

theorem outputs_keptByRecompute : KeptByRecompute OutputsOk where
  inputs := fun _ _ _ _ h => h.of_ramps rfl rfl rfl fun _ => rfl
  recompute := fun p s h => h.of_ramps (recompute_output p s) (recompute_active p s) (recompute_audit p s) fun c => by
    rw [recompute_ramp_get]
    split
    · exact targetChange_level _ _ _
    · rfl

theorem outputs_keptByCommands : KeptByCommands OutputsOk where
  link := fun _ _ _ _ _ _ _ _ h => h.of_ramps rfl rfl rfl fun _ => rfl
  staging := fun _ _ _ h => h.of_ramps rfl rfl rfl fun _ => rfl
  commit := fun _ _ _ => outputsOk_formOutputs _
  setStream := fun i e t q s _ _ h => outputs_keptByRecompute.setStream i e t q s h
  scene := fun n m p s _ h => outputs_keptByRecompute.scene n m p s h
  release := outputs_keptByRecompute.release
  formed := fun _ _ _ _ _ => outputsOk_formOutputs _
  reset := fun s th _ c => by simp [OutputStage.reset, ruledLevel]

theorem outputs_keptByParts : KeptByParts OutputsOk where
  toKeptByCommands := outputs_keptByCommands
  arrival := fun i slots s _ h => outputs_keptByRecompute.arrival i slots s h
  tick := fun order s h => outputs_keptByRecompute.tick order s (h.of_ramps rfl rfl rfl fun _ => rfl)
  expiry := outputs_keptByRecompute.expiry
  boundary := fun peaks order s _ => by
    cases order with
    | auditFirst => exact outputsOk_beginPeriod _
    | rampsFirst => exact outputsOk_beginPeriod _
    | drainLast => exact outputs_keptByCommands.byEffects.drainIfEnded _ _ (outputsOk_beginPeriod _)
  delay := fun c s h => h.of_ramps rfl rfl rfl fun d => by
    rw [Tab.get_put]
    split
    · next here =>
      rw [here, delayExpiry]
      split <;> rfl
    · rfl

/-! ### Ramp records (R44) -/

/-- A ramp record in keeping with the channel's target. -/
def RampOk (goal : Level) (r : Ramp) : Prop :=
  (r.state = .steady ↔ r.level = goal) ∧ (r.state = .waiting → 0 < r.delay) ∧ (r.state ≠ .waiting → r.delay = 0) ∧ r.delay ≤ 255

theorem rampsOk_iff {s : State} : RampsOk s ↔ ∀ c, RampOk (s.target.targets.get c) (s.ramps.get c) := Iff.rfl

namespace RampOk

variable {goal : Level} {r : Ramp} (ok : RampOk goal r)
include ok

theorem targetChange {new : Level} (changed : new ≠ goal) {delay : Nat} (fits : delay ≤ 255) :
    RampOk new (targetChange delay new r) := by
  obtain ⟨steady, waits, rests, small⟩ := ok
  unfold Machine.targetChange
  cases state : r.state with
  | steady =>
    have level := steady.mp state
    have apart : r.level ≠ new := fun same => changed (same ▸ level)
    dsimp only
    split
    · exact ⟨by simpa using apart, nofun, fun _ => rfl, Nat.zero_le _⟩
    · exact ⟨by simpa using apart, fun _ => by dsimp only; omega, fun h => absurd rfl h, fits⟩
  | waiting =>
    dsimp only
    split
    · next same => exact ⟨by simpa using same.symm, nofun, fun _ => rfl, Nat.zero_le _⟩
    · next other => exact ⟨by simpa [state] using fun same => other (Eq.symm same), waits, rests, small⟩
  | moving =>
    dsimp only
    split
    · next same => exact ⟨by simpa using same.symm, nofun, fun _ => rfl, Nat.zero_le _⟩
    · next other => exact ⟨by simpa [state] using fun same => other (Eq.symm same), waits, rests, small⟩

theorem delayExpiry : RampOk goal (delayExpiry r) := by
  unfold Machine.delayExpiry
  split
  · next due => exact absurd (ok.2.1 due.1) (by omega)
  · exact ok

theorem rampBoundary (p : Profile) : RampOk goal (rampBoundary p goal r) := by
  obtain ⟨steady, waits, rests, small⟩ := id ok
  cases state : r.state with
  | steady => rwa [rampBoundary_steady _ _ _ state]
  | waiting =>
    have apart : r.level ≠ goal := fun same => by simp [steady.mpr same] at state
    have counting := waits state
    rw [rampBoundary_waiting _ _ _ state]
    refine ⟨?_, ?_, ?_, ?_⟩
    · dsimp only
      split <;> simpa using apart
    · dsimp only
      split
      · nofun
      · intro _; omega
    · dsimp only
      split
      · next zero => exact fun _ => zero
      · exact fun h => absurd rfl h
    · dsimp only
      omega
  | moving =>
    obtain ⟨-, -, reached⟩ := stepLevel_spec (segmentOf p r.level) goal r.level
    have still : r.delay = 0 := rests (by simp [state])
    rw [rampBoundary_moving _ _ _ state]
    refine ⟨?_, ?_, fun _ => still, small⟩
    · dsimp only
      rw [← reached]
      split <;> simp_all
    · dsimp only
      split <;> nofun

end RampOk

theorem ramps_keptByRecompute : KeptByRecompute RampsOk where
  inputs := fun _ _ _ _ h => h
  recompute := fun p s h => rampsOk_iff.mpr fun c => by
    rw [recompute_target_get, recompute_ramp_get]
    by_cases chosen : p c = true
    · rw [if_pos chosen]
      split
      · next changed => exact RampOk.targetChange (h c) changed.2 (by have := (profileFor s c).delay.isLt; omega)
      · next same =>
        have goal : targetOf s c = s.target.targets.get c := by_contra fun other => same ⟨chosen, other⟩
        rw [goal]
        exact h c
    · rw [if_neg chosen, if_neg fun both => chosen both.1]
      exact h c

theorem ramps_keptByCommands : KeptByCommands RampsOk where
  link := fun _ _ _ _ _ _ _ _ h => h
  staging := fun _ _ _ h => h
  commit := fun s _ h => by
    rw [commit]
    have installed : RampsOk { s with
      active := s.staging.staged
      staging := { s.staging with state := .clean }
      patch := { s.patch with
        contributions := Tab.of fun k => carriedContribution s.active s.staging.staged k (s.patch.contributions.get k) } } := h
    have recomputed := ramps_keptByRecompute.recompute (fun _ => true) _ installed
    intro c
    rw [formOutputs_ramps, formOutputs_target]
    exact recomputed c
  setStream := fun i e t q s _ _ h => ramps_keptByRecompute.setStream i e t q s h
  scene := fun n m p s _ h => ramps_keptByRecompute.scene n m p s h
  release := ramps_keptByRecompute.release
  formed := fun s o a _ h c => by
    rw [formOutputs_ramps, formOutputs_target]
    exact h c
  reset := fun s th _ c => by simp [State.reset, Ramp.reset, TargetUnit.reset]

theorem ramps_keptByParts : KeptByParts RampsOk where
  toKeptByCommands := ramps_keptByCommands
  arrival := fun i slots s _ h => ramps_keptByRecompute.arrival i slots s h
  tick := fun order s h => ramps_keptByRecompute.tick order s h
  expiry := ramps_keptByRecompute.expiry
  boundary := ramps_keptByCommands.boundary (fun _ _ _ _ h => h) fun s h => rampsOk_iff.mpr fun c => by
    rw [stepRamps_get, stepRamps_target]
    exact RampOk.rampBoundary (h c) _
  delay := fun c s h => rampsOk_iff.mpr fun d => by
    rw [Tab.get_put]
    split
    · next here =>
      rw [here]
      exact RampOk.delayExpiry (h c)
    · exact h d

end Sys2Proof.Machine

open Sys2Proof Sys2Proof.Machine

/-- Settles O4: the levels are formed wherever the rule's ingredients change, but for the ramp records, whose levels move at a
boundary alone. -/
theorem outputLevelsFollowRule : Obligations.OutputLevelsFollowRule := fun _ _ h run => outputs_keptByParts.step h run

/-- Settles O5: record by record, by the target change and the part of a boundary. -/
theorem rampRecordsKept : Obligations.RampRecordsKept := fun _ _ h run => ramps_keptByParts.step h run
end

section
/-! PROOF. Every step keeps the references of the table sets (O8), the form of their items and the confirm counts (O9). -/

namespace Sys2Proof.Machine

/-! ### What the level path leaves of the references (R122) -/

/-- From `s` to `t` the table sets and the loss policies stay, and no COMMAND override is new. -/
def Derived (s t : State) : Prop :=
  t.active = s.active ∧ t.staging = s.staging ∧ (∀ i, (t.streams.get i).policy = (s.streams.get i).policy)
    ∧ ∀ c x, t.target.overrides.get c = some x → x.origin = .command → s.target.overrides.get c = some x

namespace Derived

theorem refl (s : State) : Derived s s := ⟨rfl, rfl, fun _ => rfl, fun _ _ there _ => there⟩

theorem trans {s t u : State} (first : Derived s t) (second : Derived t u) : Derived s u := by
  obtain ⟨active, staging, policy, overrides⟩ := first
  obtain ⟨active', staging', policy', overrides'⟩ := second
  exact ⟨active'.trans active, staging'.trans staging, fun i => (policy' i).trans (policy i), fun c x there origin =>
    overrides c x (overrides' c x there origin) origin⟩

theorem refsDefined {s t : State} (derived : Derived s t) {tables : TableSet}
    (refs : RefsDefined tables s.target.overrides s.streams) : RefsDefined tables t.target.overrides t.streams := by
  obtain ⟨-, -, policy, overrides⟩ := derived
  obtain ⟨curves, profiles, commands, scenes⟩ := refs
  exact ⟨curves, profiles, fun c x p there origin => commands c x p (overrides c x there origin) origin, fun i n named =>
    scenes i n ((policy i).symm.trans named)⟩

theorem stagingOk {s t : State} (derived : Derived s t) (h : StagingOk s) : StagingOk t := by
  obtain ⟨active, staging, -, -⟩ := id derived
  obtain ⟨refs, clean, armed⟩ := h
  unfold StagingOk
  rw [active, staging]
  exact ⟨derived.refsDefined refs, clean, fun e state => derived.refsDefined (armed e state)⟩

theorem setStream {s : State} {i : StreamId} {r : StreamRecord} (policy : r.policy = (s.streams.get i).policy) :
    Derived s (setStream i r s) :=
  ⟨rfl, rfl, fun j => by
    rw [setStream_get]
    split
    · next here => rw [here, policy]
    · rfl, fun _ _ there _ => there⟩

theorem recompute (p : Channel → Bool) (s : State) : Derived s (recompute p s) :=
  ⟨recompute_active p s, by simp, fun i => by rw [recompute_streams], fun c x there _ => by
    rwa [recompute_target_overrides] at there⟩

theorem reverseLoss (i : StreamId) (s : State) : Derived s (reverseLoss i s) :=
  ⟨by simp, by simp, fun i => by rw [reverseLoss_streams], fun c x there origin => by
    rw [reverseLoss_get] at there
    split at there
    · obtain ⟨j, n, loss, -⟩ := lossOverride_eq_some there
      rw [loss] at origin
      cases origin
    · exact there⟩

theorem applyLossScene (i : StreamId) (n : Fin 8) (s : State) : Derived s (applyLossScene i n s) :=
  ⟨by simp, by simp, fun i => by rw [applyLossScene_streams], fun c x there origin => by
    rw [applyLossScene_get] at there
    split at there
    · next held => rw [held, there]
    · split at there
      · obtain ⟨l, -, rfl⟩ := Option.map_eq_some_iff.mp there
        cases origin
      · cases there⟩

theorem applyLoss (i : StreamId) (s : State) : Derived s (applyLoss i s) := by
  unfold Machine.applyLoss
  split
  · exact refl s
  · exact recompute _ s
  · exact (applyLossScene i _ s).trans (recompute _ _)

theorem examineExpiry (i : StreamId) (s : State) : Derived s (examineExpiry i s) := by
  unfold Machine.examineExpiry loseStream
  split
  · exact (setStream (r := { s.streams.get i with state := .lost }) rfl).trans (applyLoss i _)
  · exact refl s

theorem takeTick (order : List StreamId) (s : State) : Derived s (takeTick order s) := by
  have counted : Derived s (countTicks { s with tickCount := s.tickCount + 1 }) :=
    ⟨by simp, by simp, fun i => by
      simp only [countTicks, Tab.get_of]
      split <;> rfl, fun c x there _ => by rwa [countTicks_target] at there⟩
  unfold Machine.takeTick
  generalize order ++ List.finRange 16 = turn
  induction turn using List.reverseRecOn with
  | nil => exact counted
  | append_singleton turn i ih =>
    rw [List.foldl_append]
    exact ih.trans (examineExpiry i _)

theorem disableStream (i : StreamId) (r : StreamRecord) (s : State) :
    Derived (Machine.setStream i r s) (disableStream i r s) := by
  have dropped : Derived (Machine.setStream i r s)
      (dropValues i (Machine.setStream i { r with state := .disabled, measured := 0, ticks := 0 } s)) :=
    ⟨by simp, by simp, fun j => by
      rw [dropValues_streams, setStream_get, setStream_get]
      split <;> rfl, fun c x there _ => by simpa using there⟩
  exact dropped.trans ((reverseLoss i _).trans (recompute _ _))

theorem changeLostPolicy (i : StreamId) (old : LossPolicy) (s : State) : Derived s (changeLostPolicy i old s) := by
  unfold Machine.changeLostPolicy
  dsimp only
  split
  · exact refl s
  · split
    · exact (reverseLoss i s).trans ((applyLossScene i _ _).trans (recompute _ _))
    · exact (reverseLoss i s).trans (recompute _ _)

/-- SET STREAM, its timeout and policy once recorded. -/
theorem applySetStream (i : StreamId) (e : Bool) (t : TimeoutSetting) (q : LossPolicy) (s : State) :
    Derived (Machine.setStream i { s.streams.get i with timeout := t, policy := q } s) (applySetStream i e t q s) := by
  rcases applySetStream_cases i e t q s with ⟨-, rfl, done⟩ | ⟨cases, done⟩ | ⟨-, rfl, done⟩ | ⟨-, rfl, done⟩ | ⟨-, rfl, done⟩ <;>
    rw [done]
  · exact ⟨rfl, rfl, fun j => by
      rw [setStream_get, setStream_get]
      split <;> rfl, fun _ _ there _ => there⟩
  · exact refl _
  · exact examineExpiry i _
  · exact changeLostPolicy i _ _
  · exact disableStream i _ s

theorem arrival (i : StreamId) (slots : List Byte) (s : State) : Derived s (arrival i slots s) := by
  have taken : Derived s (takeValues i slots (Machine.setStream i (arrivalRecord (s.streams.get i)) s)) :=
    ⟨by simp, by simp, fun j => by
      rw [takeValues_streams, setStream_get]
      split
      · next here => rw [here]; rfl
      · rfl, fun c x there _ => by simpa using there⟩
  unfold Machine.arrival
  dsimp only
  split
  · exact taken.trans ((reverseLoss i _).trans (recompute _ _))
  · exact taken.trans (recompute _ _)

theorem release (m : Mask) (s : State) : Derived s (effect (.release m) s).1 := by
  have reexamined (chosen : Channel → Bool) : Derived s (reexamine chosen (removeOverrides chosen s)) :=
    ⟨by simp, by simp, fun i => by simp, fun c x there origin => by
      rw [reexamine_removed_get] at there
      split at there
      · obtain ⟨j, n, loss, -⟩ := lossOverride_eq_some there
        rw [loss] at origin
        cases origin
      · exact there⟩
  simp only [effect, effectRelease]
  exact (reexamined _).trans (recompute _ _)

end Derived

/-! ### References of the table sets (R113, R114, R128) -/

/-- A profile given with a RECALL SCENE is defined where it is needed (R26). -/
theorem stagingOk_sceneRecalled {s : State} {p : Option (Fin 16)} (named : profileNamed s p = true) (n : Fin 8)
    (m : Option Mask) (h : StagingOk s) : StagingOk (sceneRecalled s n m p) := by
  have given (t : TableSet) (x : Override) (q : Fin 16) (c : Channel)
      (there : recalledOverride s n m p c = some x) (profile : x.profile = some q)
      (known : p = some q → (profileOf t q).isSome = true)
      (old : s.target.overrides.get c = some x → (profileOf t q).isSome = true) : (profileOf t q).isSome = true := by
    unfold recalledOverride at there
    split at there
    · split at there
      · cases there
        exact known profile
      · exact old there
    · exact old there
  have in_active {q : Fin 16} (is : p = some q) : (profileOf s.active q).isSome = true := by
    subst is
    exact (Bool.and_eq_true_iff.mp named).1
  have in_staged {q : Fin 16} {e : BitVec 16} (armed : s.staging.state = .armed e) (is : p = some q) :
      (profileOf s.staging.staged q).isSome = true := by
    subst is
    have both := (Bool.and_eq_true_iff.mp named).2
    rwa [armed] at both
  obtain ⟨⟨curves, profiles, commands, scenes⟩, clean, armed⟩ := h
  obtain ⟨o, cells⟩ : ∃ o, o = Tab.of (recalledOverride s n m p) := ⟨_, rfl⟩
  rw [sceneRecalled, ← cells]
  refine ⟨⟨curves, profiles, fun c x q there origin profile => ?_, scenes⟩, clean, fun e state => ?_⟩
  · rw [cells, Tab.get_of] at there
    exact given s.active x q c there profile in_active fun held => commands c x q held origin profile
  · obtain ⟨curves, profiles, commands, scenes⟩ := armed e state
    refine ⟨curves, profiles, fun c x q there origin profile => ?_, scenes⟩
    rw [cells, Tab.get_of] at there
    exact given s.staging.staged x q c there profile (in_staged state) fun held => commands c x q held origin profile

/-- A policy SCENE of a SET STREAM names a scene that is defined where it is needed (R68). -/
theorem stagingOk_setStream {s : State} {q : LossPolicy} (named : policyNamed s q = true) (i : StreamId) (r : StreamRecord)
    (policy : r.policy = q) (h : StagingOk s) : StagingOk (setStream i r s) := by
  have given (t : TableSet) (known : ∀ n, q = .scene n → (t.scenes.get n).isSome = true)
      (refs : RefsDefined t s.target.overrides s.streams) : RefsDefined t s.target.overrides (s.streams.put i r) := by
    obtain ⟨curves, profiles, commands, scenes⟩ := refs
    refine ⟨curves, profiles, commands, fun j n is => ?_⟩
    rw [Tab.get_put] at is
    split at is
    · exact known n (policy.symm.trans is)
    · exact scenes j n is
  have in_active (n : Fin 8) (is : q = .scene n) : (s.active.scenes.get n).isSome = true := by
    subst is
    exact (Bool.and_eq_true_iff.mp named).1
  have in_staged (e : BitVec 16) (armed : s.staging.state = .armed e) (n : Fin 8) (is : q = .scene n) :
      (s.staging.staged.scenes.get n).isSome = true := by
    subst is
    have both := (Bool.and_eq_true_iff.mp named).2
    rwa [armed] at both
  obtain ⟨refs, clean, armed⟩ := h
  exact ⟨given _ in_active refs, clean, fun e state => given _ (in_staged e state) (armed e state)⟩

theorem stagingOk_commit {s : State} (valid : (∃ e, s.staging.state = .armed e)
    ∨ RefsDefined s.staging.staged s.target.overrides s.streams) (h : StagingOk s) : StagingOk (commit s) := by
  have refs : RefsDefined s.staging.staged s.target.overrides s.streams := by
    rcases valid with ⟨e, armed⟩ | refs
    · exact h.2.2 e armed
    · exact refs
  obtain ⟨_, _, _, _, _, _, commits, -⟩ := exists_committed s
  rw [commits]
  exact ⟨refs, fun _ => rfl, fun e => nofun⟩

theorem stagingOk_step {s : State} {x : StagingUnit} (edits : StagingStep s x) (h : StagingOk s) :
    StagingOk { s with staging := x } := by
  obtain ⟨refs, -, armed⟩ := h
  cases edits with
  | write t form => exact ⟨refs, nofun, fun e => nofun⟩
  | arm e valid =>
    refine ⟨refs, nofun, fun _ _ => ?_⟩
    rcases valid with ⟨d, state⟩ | refs
    · exact armed d state
    · exact refs
  | disarm => exact ⟨refs, nofun, fun e => nofun⟩
  | copy => exact ⟨refs, fun _ => rfl, fun e => nofun⟩

theorem staging_keptByCommands : KeptByCommands StagingOk where
  link := fun _ _ _ _ _ _ _ _ h => h
  staging := fun _ _ edits h => stagingOk_step edits h
  commit := fun _ valid h => stagingOk_commit valid h
  setStream := fun i e t q s _ named h => (Derived.applySetStream i e t q s).stagingOk (stagingOk_setStream named i _ rfl h)
  scene := fun n m p _ named h => (Derived.recompute _ _).stagingOk (stagingOk_sceneRecalled named n m h)
  release := fun m s h => (Derived.release m s).stagingOk h
  formed := fun s o a _ h => by
    unfold StagingOk
    rw [formOutputs_active, formOutputs_staging, formOutputs_target, formOutputs_streams]
    exact h
  reset := fun s th _ => by
    obtain ⟨-, -, -, refs, -⟩ := resetMeetsInvariants
    exact refs

theorem staging_keptByParts : KeptByParts StagingOk where
  toKeptByCommands := staging_keptByCommands
  arrival := fun i slots s _ h => (Derived.arrival i slots s).stagingOk h
  tick := fun order s h => (Derived.takeTick order s).stagingOk h
  expiry := fun i s h => (Derived.examineExpiry i s).stagingOk h
  boundary := staging_keptByCommands.boundary (fun _ _ _ _ h => h) fun s h => by
    unfold StagingOk
    rw [stepRamps_active, stepRamps_staging, stepRamps_target, stepRamps_streams]
    exact h
  delay := fun c s h => by
    generalize s.ramps.put c _ = ramps
    exact h

/-! ### Table items and confirm counts (R2, R25, R43, R88) -/

theorem tables_keptByRecompute : KeptByRecompute TablesOk where
  inputs := fun _ _ _ _ h => h
  recompute := fun p s h => by
    unfold TablesOk
    rw [recompute_active, recompute_staging]
    exact h

theorem tables_keptByCommands : KeptByCommands TablesOk where
  link := fun _ _ _ _ _ _ _ _ h => h
  staging := fun s x edits h => by
    cases edits with
    | write t form => exact ⟨h.1, form h.2⟩
    | arm e valid => exact h
    | disarm => exact h
    | copy => exact ⟨h.1, h.1⟩
  commit := fun s _ h => by
    obtain ⟨_, _, _, _, _, _, commits, -⟩ := exists_committed s
    rw [commits]
    exact ⟨h.2, h.2⟩
  setStream := fun i e t q s _ _ h => tables_keptByRecompute.setStream i e t q s h
  scene := fun n m p s _ h => tables_keptByRecompute.scene n m p s h
  release := tables_keptByRecompute.release
  formed := fun s o a _ h => by
    unfold TablesOk
    rw [formOutputs_active, formOutputs_staging]
    exact h
  reset := fun s th _ => by
    obtain ⟨-, -, -, -, tables, -⟩ := resetMeetsInvariants
    exact tables

theorem tables_keptByParts : KeptByParts TablesOk where
  toKeptByCommands := tables_keptByCommands
  arrival := fun i slots s _ h => tables_keptByRecompute.arrival i slots s h
  tick := fun order s h => tables_keptByRecompute.tick order s h
  expiry := tables_keptByRecompute.expiry
  boundary := tables_keptByCommands.boundary (fun _ _ _ _ h => h) fun s h => by
    unfold TablesOk
    rw [stepRamps_active, stepRamps_staging]
    exact h
  delay := fun c s h => by
    generalize s.ramps.put c _ = ramps
    exact h

theorem monitorsOk_of_within {s : State} (h : MonitorsOk s) {o : OutputStage} (few : CountsWithin o s.output) (c : Channel) :
    (o.monitors.get c).count < 3 := (few c).elim id fun least => Nat.lt_of_le_of_lt least (h c)

theorem monitors_keptByRecompute : KeptByRecompute MonitorsOk where
  inputs := fun _ _ _ _ h => h
  recompute := fun p s h c => by
    rw [recompute_output]
    exact h c

theorem monitors_keptByCommands : KeptByCommands MonitorsOk where
  link := fun _ _ _ _ _ _ _ _ h => h
  staging := fun _ _ _ h => h
  commit := fun s _ h c => by
    obtain ⟨_, _, _, _, _, _, commits, -⟩ := exists_committed s
    rw [commits]
    exact h c
  setStream := fun i e t q s _ _ h => monitors_keptByRecompute.setStream i e t q s h
  scene := fun n m p s _ h => monitors_keptByRecompute.scene n m p s h
  release := monitors_keptByRecompute.release
  formed := fun s o a few h c => by
    rw [formOutputs_output_monitors]
    exact monitorsOk_of_within h few c
  reset := fun s th _ c => by simp [OutputStage.reset, Monitor.reset]

theorem monitors_keptByParts : KeptByParts MonitorsOk where
  toKeptByCommands := monitors_keptByCommands
  arrival := fun i slots s _ h => monitors_keptByRecompute.arrival i slots s h
  tick := fun order s h => monitors_keptByRecompute.tick order s h
  expiry := monitors_keptByRecompute.expiry
  boundary := monitors_keptByCommands.boundary (fun _ _ _ few h => monitorsOk_of_within h few) fun s h c => by
    rw [stepRamps_output]
    exact h c
  delay := fun c s h => by
    generalize s.ramps.put c _ = ramps
    exact h

/-! ### The ring interface and the group set (R146, R184, R188, R189) -/

/-- A group set in its ranges (R146). -/
def GroupsOk (groups : List Byte) : Prop :=
  groups.length ≤ 4 ∧ groups.Nodup ∧ ∀ g ∈ groups, 1 ≤ g.toNat ∧ g.toNat ≤ 63

theorem linkOk_iff {s : State} : LinkOk s ↔ RingOk s.ring ∧ GroupsOk s.command.groups :=
  ⟨fun ⟨range, few, distinct, numbers, up, hunt, most⟩ => ⟨⟨range, up, hunt, most⟩, few, distinct, numbers⟩,
    fun ⟨⟨range, up, hunt, most⟩, few, distinct, numbers⟩ => ⟨range, few, distinct, numbers, up, hunt, most⟩⟩

theorem nodup_numbers : ((List.range 64).map byteOf).Nodup := by decide

theorem GroupsFrom.groupsOk {u v : CommandUnit} (from_v : GroupsFrom u v) (h : GroupsOk v.groups) : GroupsOk u.groups := by
  rcases from_v with same | ⟨l, ⟨few, -, range⟩, made⟩
  · rwa [same]
  · rw [made]
    have distinct := nodup_numbers.filter fun g => l.contains g
    have within (g : Byte) (there : g ∈ ((List.range 64).map byteOf).filter fun g => l.contains g) : g ∈ l :=
      List.contains_iff_mem.mp (List.mem_filter.mp there).2
    exact ⟨(distinct.subperm within).length_le.trans few, distinct, fun g there => range g (within g there)⟩

theorem LinkOk.of_eq {s t : State} (h : LinkOk s) (ring : t.ring = s.ring) (command : t.command = s.command) : LinkOk t := by
  rw [linkOk_iff, ring, command]
  exact linkOk_iff.mp h

theorem link_keptByRecompute : KeptByRecompute LinkOk where
  inputs := fun _ _ _ _ h => h.of_eq rfl rfl
  recompute := fun p s h => h.of_eq (recompute_ring p s) (recompute_command p s)

theorem link_keptByCommands : KeptByCommands LinkOk where
  link := fun _ _ _ _ _ _ ranges groups h =>
    have ⟨ring, members⟩ := linkOk_iff.mp h
    linkOk_iff.mpr ⟨ranges ring, groups.groupsOk members⟩
  staging := fun _ _ _ h => h.of_eq rfl rfl
  commit := fun s _ h => h.of_eq (commit_ring s) (commit_command s)
  setStream := fun i e t q s _ _ h => link_keptByRecompute.setStream i e t q s h
  scene := fun n m p s _ h => link_keptByRecompute.scene n m p s h
  release := link_keptByRecompute.release
  formed := fun _ _ _ _ h => h.of_eq (formOutputs_ring _) (formOutputs_command _)
  reset := fun _ _ h => h.of_eq rfl rfl

theorem link_keptByParts : KeptByParts LinkOk where
  toKeptByCommands := link_keptByCommands
  arrival := fun i slots s _ h => link_keptByRecompute.arrival i slots s h
  tick := fun order s h => link_keptByRecompute.tick order s (h.of_eq rfl rfl)
  expiry := link_keptByRecompute.expiry
  boundary := link_keptByCommands.boundary (fun _ _ _ _ h => h.of_eq rfl rfl) fun s h =>
    h.of_eq (stepRamps_ring s) (stepRamps_command s)
  delay := fun _ _ h => h.of_eq rfl rfl

end Sys2Proof.Machine

open Sys2Proof Sys2Proof.Machine

/-- Settles O8: the level path names nothing new, and what a command names is defined where it is needed. -/
theorem tableReferencesKept : Obligations.TableReferencesKept := fun _ _ h run => staging_keptByParts.step h run

/-- Settles O9: the items are written in their form, the counts settle at every boundary, and the ring interface and the group set
leave their ranges in no row. -/
theorem formsAndRangesKept : Obligations.FormsAndRangesKept := fun _ _ run =>
  ⟨fun h => tables_keptByParts.step h run, fun h => monitors_keptByParts.step h run, fun h => link_keptByParts.step h run⟩
end

section
/-! PROOF. Every step keeps streams, contributions, overrides and targets in agreement (O6). -/

namespace Sys2Proof.Machine

/-! ### Streams (R59 to R61, R65) -/

/-- A stream record in its form, the bound of a LIVE count apart (R59, R60). -/
def StreamForm (r : StreamRecord) : Prop :=
  (r.state = .disabled ∨ r.state = .silent → r.measured = 0 ∧ r.ticks = 0) ∧ r.timeout ≠ .ticks 0 ∧ r.measured ≤ 65535
    ∧ r.ticks ≤ 65535

/-- A LIVE count is below the effective timeout (R61). -/
def Early (r : StreamRecord) : Prop := r.state = .live → r.ticks < effectiveTimeout r

theorem streamsOk_iff {s : State} : StreamsOk s ↔ (∀ i, StreamForm (s.streams.get i)) ∧ ∀ i, Early (s.streams.get i) :=
  ⟨fun h => ⟨fun i => have ⟨zero, _, rest⟩ := h i; ⟨zero, rest⟩, fun i => (h i).2.1⟩,
    fun ⟨form, early⟩ i => have ⟨zero, rest⟩ := form i; ⟨zero, early i, rest⟩⟩

theorem effectiveTimeout_pos {r : StreamRecord} (some_ticks : r.timeout ≠ .ticks 0) : 0 < effectiveTimeout r := by
  unfold effectiveTimeout
  split
  · next n timeout =>
    refine Nat.pos_of_ne_zero fun zero => some_ticks ?_
    rw [timeout, BitVec.eq_of_toNat_eq (y := 0) zero]
  · split <;> omega

theorem effectiveTimeout_le (r : StreamRecord) : effectiveTimeout r ≤ 65535 := by
  unfold effectiveTimeout
  split
  · next n _ => have := n.isLt; omega
  · split <;> omega

/-- A present contribution of the stream is usable (R20). -/
def streamUsable (r : StreamRecord) : Bool :=
  match r.state with
  | .live => true
  | .lost => r.policy == .hold
  | _ => false

/-! ### Targets that stay (R22) -/

theorem usableValue_congr_at {s t : State} {c : Channel} {q : Position} (active : t.active = s.active)
    (contribution : t.patch.contributions.get (keyOf c q) = s.patch.contributions.get (keyOf c q))
    (streams : ∀ e, s.active.patch.get (keyOf c q) = some e → (s.patch.contributions.get (keyOf c q)).present = true →
      streamUsable (t.streams.get e.stream) = streamUsable (s.streams.get e.stream)) :
    usableValue t c q = usableValue s c q := by
  have same : usable t c q = usable s c q := by
    unfold usable contributionAt entryAt
    rw [contribution, active]
    cases present : (s.patch.contributions.get (keyOf c q)).present with
    | false => rfl
    | true =>
      cases entry : s.active.patch.get (keyOf c q) with
      | none => rfl
      | some e => exact streams e entry present
  simp only [usableValue, same, contributionAt, contribution]

theorem targetOf_congr_at {s t : State} {c : Channel} (overrides : t.target.overrides.get c = s.target.overrides.get c)
    (active : t.active = s.active) (lastUpdated : t.patch.lastUpdated.get c = s.patch.lastUpdated.get c)
    (values : ∀ q, usableValue t c q = usableValue s c q) : targetOf t c = targetOf s c := by
  simp only [targetOf, mergeResult, overrides, active, lastUpdated, values]

/-- Where exactly the channels whose target can differ are recomputed, the targets follow the rule again (R36). -/
theorem TargetsOk.of_recomputed {s t : State} {p : Channel → Prop} (h : TargetsOk s) (recomputed : Recomputed p s t)
    (same : ∀ c, ¬ p c → targetOf t c = targetOf s c) : TargetsOk t := by
  intro c
  obtain ⟨chosen, kept, -, -⟩ := recomputed c
  by_cases is : p c
  · exact chosen is
  · rw [kept is, same c is]
    exact h c

/-- The streams but one are as they were, and so is what they make usable. -/
theorem targetOf_stream {s t : State} {i : StreamId} {r : StreamRecord} {c : Channel}
    (overrides : t.target.overrides.get c = s.target.overrides.get c) (active : t.active = s.active) (patch : t.patch = s.patch)
    (records : t.streams = s.streams.put i r)
    (usable_same : hasPresent s i c = true → streamUsable r = streamUsable (s.streams.get i)) : targetOf t c = targetOf s c := by
  refine targetOf_congr_at overrides active (by rw [patch]) fun q => usableValue_congr_at active (by rw [patch]) fun e entry present => ?_
  rw [records, Tab.get_put]
  split
  · next here =>
    rw [here]
    exact usable_same ((hasPresent_iff s i c).mpr ⟨q, e, entry, here, present⟩)
  · rfl

/-! ### The level path in agreement -/

/-- Streams in their form, contributions, overrides and targets in agreement. -/
structure PathOk (s : State) : Prop where
  streams : ∀ i, StreamForm (s.streams.get i)
  contributions : ContributionsOk s
  overrides : OverridesOk s
  targets : TargetsOk s

/-- The loss of stream `i` is not to be seen from its state: it is neither LIVE nor LOST. -/
theorem PathOk.not_present {s : State} (h : PathOk s) {i : StreamId} (dead : (s.streams.get i).state ≠ .live)
    (found : (s.streams.get i).state ≠ .lost) (c : Channel) : ¬ hasPresent s i c = true := by
  rw [hasPresent_iff]
  rintro ⟨q, e, entry, rfl, present⟩
  obtain ⟨e', entry', state, -⟩ := (h.contributions (keyOf c q)).2 present
  rw [entry] at entry'
  cases entry'
  exact state.elim dead found

/-- A stream record is replaced by one that has present contributions where it has any, and loses no override. -/
theorem PathOk.setStream {s : State} (h : PathOk s) {i : StreamId} {r : StreamRecord} (form : StreamForm r)
    (alive : (s.streams.get i).state = .live ∨ (s.streams.get i).state = .lost → r.state = .live ∨ r.state = .lost)
    (held : (s.streams.get i).state = .lost → r.state = .lost ∧ r.policy = (s.streams.get i).policy)
    (usable_same : (s.streams.get i).state = .live → streamUsable r = true) : PathOk (setStream i r s) where
  streams := fun j => by
    rw [setStream_get]
    split
    · exact form
    · exact h.streams j
  contributions := fun k => by
    obtain ⟨absent, present⟩ := h.contributions k
    refine ⟨absent, fun there => ?_⟩
    obtain ⟨e, entry, state, curved⟩ := present there
    refine ⟨e, entry, ?_, curved⟩
    rw [setStream_get]
    split
    · next here => exact alive (here ▸ state)
    · exact state
  overrides := fun c o j there origin => by
    obtain ⟨lost, ⟨n, policy⟩, profile⟩ := h.overrides c o j there origin
    refine ⟨?_, ⟨n, ?_⟩, profile⟩ <;> rw [setStream_get] <;> split
    · next here => exact (held (here ▸ lost)).1
    · exact lost
    · next here => exact (held (here ▸ lost)).2.trans (here ▸ policy)
    · exact policy
  targets := fun c => by
    have usable_here (present : hasPresent s i c = true) : streamUsable r = streamUsable (s.streams.get i) := by
      cases state : (s.streams.get i).state with
      | live => rw [usable_same state, streamUsable, state]
      | lost =>
        obtain ⟨lost, policy⟩ := held state
        rw [streamUsable, streamUsable, lost, state, policy]
      | disabled => exact absurd present (h.not_present (by simp [state]) (by simp [state]) c)
      | silent => exact absurd present (h.not_present (by simp [state]) (by simp [state]) c)
    have same : targetOf (Machine.setStream i r s) c = targetOf s c :=
      targetOf_stream (s := s) (t := Machine.setStream i r s) rfl rfl rfl rfl usable_here
    rw [same]
    exact h.targets c

/-- An override that stands after a loss applied stood before, or is one of the stream lost under its scene. -/
theorem lossApplied_cases {s : State} {i : StreamId} {p : LossPolicy} {o : Option Override} {c : Channel} {x : Override}
    (there : lossApplied s i p o c = some x) : o = some x ∨ x.origin = .loss i ∧ (∃ n, p = .scene n) ∧ x.profile = none := by
  unfold lossApplied at there
  split at there
  · exact .inl there
  · next n =>
    split at there
    · obtain ⟨l, -, rfl⟩ := Option.map_eq_some_iff.mp there
      exact .inr ⟨rfl, ⟨n, rfl⟩, rfl⟩
    · cases there
  · cases there

/-- An override of origin LOSS has its stream LOST under SCENE, and no profile (R23). -/
def ByLoss (s : State) (x : Override) : Prop :=
  ∀ j, x.origin = .loss j → (s.streams.get j).state = .lost ∧ (∃ n, (s.streams.get j).policy = .scene n) ∧ x.profile = none

theorem overridesOk_iff {s : State} : OverridesOk s ↔ ∀ c x, s.target.overrides.get c = some x → ByLoss s x :=
  ⟨fun h c x there j => h c x j there, fun h c x j there => h c x there j⟩

theorem byLoss_lossOverride {s : State} {c : Channel} {x : Override} (found : lossOverride s c = some x) : ByLoss s x := by
  obtain ⟨i, n, origin, profile, lost, policy, -⟩ := lossOverride_eq_some found
  intro j here
  rw [origin] at here
  cases here
  exact ⟨lost, ⟨n, policy⟩, profile⟩

/-- An override of another origin than the one stream that changes stays right. -/
theorem ByLoss.of_other {s t : State} {x : Override} (h : ByLoss s x) {i : StreamId} (other : x.origin ≠ .loss i)
    (same : ∀ j, j ≠ i → t.streams.get j = s.streams.get j) : ByLoss t x := by
  intro j here
  rw [same j fun is => other (is ▸ here)]
  exact h j here

/-! ### The loss of a stream (R29, R66) -/

namespace PathOk

variable {s : State} (h : PathOk s)
include h

theorem lose {i : StreamId} (live : (s.streams.get i).state = .live) : PathOk (loseStream i s) := by
  obtain ⟨overrides, targets, ramps, loses, cells, recomputed⟩ := exists_lost i s
  obtain ⟨streams, records⟩ : ∃ x : Tab 16 StreamRecord, x = s.streams.put i { s.streams.get i with state := .lost } := ⟨_, rfl⟩
  have record (j : StreamId) : streams.get j = if j = i then { s.streams.get i with state := .lost } else s.streams.get j := by
    rw [records, Tab.get_put]
  have others (j : StreamId) (other : j ≠ i) : streams.get j = s.streams.get j := by rw [record, if_neg other]
  rw [loses, ← records]
  rw [← records] at recomputed
  refine ⟨fun j => ?streams, fun k => ?contributions, overridesOk_iff.mpr fun c x there => ?overrides, ?targets⟩
  case streams =>
    dsimp only
    rw [record]
    split
    · exact ⟨nofun, (h.streams i).2⟩
    · exact h.streams j
  case contributions =>
    obtain ⟨absent, present⟩ := h.contributions k
    refine ⟨absent, fun there => ?_⟩
    obtain ⟨e, entry, state, curved⟩ := present there
    refine ⟨e, entry, ?_, curved⟩
    dsimp only
    rw [record]
    split
    · exact .inr rfl
    · exact state
  case overrides =>
    dsimp only at there
    rw [cells] at there
    rcases lossApplied_cases there with old | ⟨origin, ⟨n, policy⟩, profile⟩
    · have right := overridesOk_iff.mp h.overrides c x old
      refine right.of_other (i := i) (fun origin => ?_) others
      have lost := (right i origin).1
      rw [live] at lost
      cases lost
    · intro j here
      rw [origin] at here
      cases here
      dsimp only
      rw [record, if_pos rfl]
      exact ⟨rfl, ⟨n, policy⟩, profile⟩
  case targets =>
    refine h.targets.of_recomputed recomputed fun c not => ?_
    by_cases hold : (s.streams.get i).policy = .hold
    · refine targetOf_stream (i := i) ?_ rfl rfl records fun _ => ?_
      · dsimp only
        rw [cells, hold, lossApplied_hold]
      · simp [streamUsable, live, hold]
    · have neither := fun either => not ⟨hold, either⟩
      exact targetOf_stream (i := i) (by_contra fun differ => neither (.inr differ)) rfl rfl records
        fun present => absurd (.inl present) neither

theorem expiry (i : StreamId) : PathOk (examineExpiry i s) := by
  rcases examineExpiry_cases i s with ⟨due, done⟩ | ⟨-, done⟩
  · rw [done]
    exact h.lose ((expiryDue_iff _).mp due).1
  · rwa [done]

/-- Every stream examined in turn (R61, R66). -/
theorem examinedInTurn (turn : List StreamId) : PathOk (turn.foldl (fun t i => examineExpiry i t) s) := by
  induction turn generalizing s with
  | nil => exact h
  | cons i rest ih => exact ih (h.expiry i)

end PathOk

/-- Once every stream is examined none is due. -/
theorem early_examined (order : List StreamId) (s : State) (j : StreamId) :
    Early (((order ++ List.finRange 16).foldl (fun t i => examineExpiry i t) s).streams.get j) := by
  obtain ⟨streams, overrides, targets, ramps, ends, record, -, -⟩ := exists_examinedInTurn (order ++ List.finRange 16) s
  rw [ends]
  dsimp only
  rw [record]
  split
  · nofun
  · next not_due =>
    intro live
    by_contra late
    exact not_due ⟨List.mem_append_right _ (List.mem_finRange j), (expiryDue_iff _).mpr ⟨live, Nat.not_lt.mp late⟩⟩

/-! ### A disable (R12, R33, R70) -/

theorem PathOk.disable {s : State} (h : PathOk s) {i : StreamId} {r : StreamRecord} (form : StreamForm r) :
    PathOk (disableStream i r s) := by
  obtain ⟨contributions, overrides, targets, ramps, disables, values, cells, recomputed⟩ := exists_disabled i r s
  obtain ⟨streams, records⟩ : ∃ x : Tab 16 StreamRecord,
    x = s.streams.put i { r with state := .disabled, measured := 0, ticks := 0 } := ⟨_, rfl⟩
  have record (j : StreamId) : streams.get j
      = if j = i then { r with state := .disabled, measured := 0, ticks := 0 } else s.streams.get j := by
    rw [records, Tab.get_put]
  rw [disables, ← records]
  rw [← records] at recomputed cells
  refine ⟨fun j => ?streams, fun k => ?contributions, overridesOk_iff.mpr fun c x there => ?overrides, ?targets⟩
  case streams =>
    dsimp only
    rw [record]
    split
    · exact ⟨fun _ => ⟨rfl, rfl⟩, form.2.1, Nat.zero_le _, Nat.zero_le _⟩
    · exact h.streams j
  case contributions =>
    dsimp only
    rw [values]
    split
    · exact ⟨fun _ => ⟨rfl, rfl⟩, nofun⟩
    · next other =>
      obtain ⟨absent, present⟩ := h.contributions k
      refine ⟨absent, fun there => ?_⟩
      obtain ⟨e, entry, state, curved⟩ := present there
      refine ⟨e, entry, ?_, curved⟩
      rw [record, if_neg fun here => other (by rw [entry, ← here]; rfl)]
      exact state
  case overrides =>
    dsimp only at there
    rw [cells] at there
    split at there
    · exact byLoss_lossOverride there
    · next not_held =>
      refine (overridesOk_iff.mp h.overrides c x there).of_other (i := i) (fun origin => ?_) fun j other => ?_
      · exact not_held ((heldByLoss_iff s i c).mpr ⟨x, there, origin⟩)
      · dsimp only
        rw [record, if_neg other]
  case targets =>
    refine h.targets.of_recomputed recomputed fun c not => ?_
    simp only [not_or, not_not] at not
    obtain ⟨same_a, same_b, not_held⟩ := not
    refine targetOf_congr_at ?_ rfl rfl fun q => usableValue_congr_at rfl (by cases q <;> assumption) fun e entry present => ?_
    · dsimp only
      rw [cells, if_neg not_held]
    · dsimp only
      rw [record, if_neg]
      intro here
      have gone := values (keyOf c q)
      rw [if_pos (by rw [entry, ← here]; rfl)] at gone
      have kept : contributions.get (keyOf c q) = s.patch.contributions.get (keyOf c q) := by cases q <;> assumption
      rw [← kept, gone] at present
      cases present

/-! ### A new policy of a LOST stream (R34, R73) -/

theorem PathOk.changePolicy {s : State} (h : PathOk s) {i : StreamId} {r : StreamRecord} (form : StreamForm r)
    (lost : (s.streams.get i).state = .lost) (lost_r : r.state = .lost) (differ : r.policy ≠ (s.streams.get i).policy) :
    PathOk (changeLostPolicy i (s.streams.get i).policy (Machine.setStream i r s)) := by
  obtain ⟨streams, records⟩ : ∃ x : Tab 16 StreamRecord, x = s.streams.put i r := ⟨_, rfl⟩
  have record (j : StreamId) : streams.get j = if j = i then r else s.streams.get j := by rw [records, Tab.get_put]
  have set : Machine.setStream i r s = { s with streams := streams } := by rw [records]; rfl
  rw [set]
  obtain ⟨overrides, targets, ramps, changes, cells, recomputed⟩ := exists_changed (i := i) (old := (s.streams.get i).policy)
    (s := { s with streams := streams }) (by dsimp only; rw [record, if_pos rfl]; exact differ)
  have held_same : heldByLoss { s with streams := streams } i = heldByLoss s i := heldByLoss_congr (by rfl) i
  have present_same : hasPresent { s with streams := streams } i = hasPresent s i := hasPresent_congr (by rfl) (by rfl) i
  simp only [held_same, present_same, record, if_true] at cells recomputed
  rw [changes]
  refine ⟨fun j => ?streams, fun k => ?contributions, overridesOk_iff.mpr fun c x there => ?overrides, ?targets⟩
  case streams =>
    dsimp only
    rw [record]
    split
    · exact form
    · exact h.streams j
  case contributions =>
    obtain ⟨absent, present⟩ := h.contributions k
    refine ⟨absent, fun there => ?_⟩
    obtain ⟨e, entry, state, curved⟩ := present there
    refine ⟨e, entry, ?_, curved⟩
    dsimp only
    rw [record]
    split
    · exact .inr lost_r
    · exact state
  case overrides =>
    dsimp only at there
    rw [cells] at there
    rcases lossApplied_cases there with old | ⟨origin, ⟨n, policy⟩, profile⟩
    · split at old
      · exact byLoss_lossOverride old
      · next not_held =>
        refine (overridesOk_iff.mp h.overrides c x old).of_other (i := i) (fun origin => ?_) fun j other => ?_
        · exact not_held ((heldByLoss_iff s i c).mpr ⟨x, old, origin⟩)
        · dsimp only
          rw [record, if_neg other]
    · intro j here
      rw [origin] at here
      cases here
      dsimp only
      rw [record, if_pos rfl]
      exact ⟨lost_r, ⟨n, policy⟩, profile⟩
  case targets =>
    refine h.targets.of_recomputed (recomputed.of_before rfl rfl) fun c not => ?_
    simp only [not_or, not_and, not_not] at not
    obtain ⟨-, overrides_same, no_present⟩ := not
    refine targetOf_stream (i := i) (r := r) overrides_same rfl rfl records fun present => ?_
    rw [streamUsable, streamUsable, lost, lost_r]
    by_cases hold : (s.streams.get i).policy = .hold ∨ r.policy = .hold
    · exact absurd present (no_present hold)
    · rw [not_or] at hold
      simp [hold.1, hold.2]

/-! ### An arrival (R3, R8, R10, R32, R63) -/

theorem streamForm_arrived {r : StreamRecord} (form : StreamForm r) : StreamForm (arrivalRecord r) ∧ Early (arrivalRecord r) := by
  obtain ⟨-, some_ticks, -, few⟩ := form
  refine ⟨⟨fun dead => dead.elim nofun nofun, some_ticks, ?_, Nat.zero_le _⟩, fun _ => effectiveTimeout_pos some_ticks⟩
  simp only [arrivalRecord]
  split <;> omega

theorem PathOk.arrive {s : State} (h : PathOk s) {i : StreamId} (on : (s.streams.get i).state ≠ .disabled) (slots : List Byte) :
    PathOk (arrival i slots s) := by
  obtain ⟨contributions, lastUpdated, overrides, targets, ramps, arrives, values, -, cells, recomputed⟩ := exists_arrival i slots s
  obtain ⟨streams, records⟩ : ∃ x : Tab 16 StreamRecord, x = s.streams.put i (arrivalRecord (s.streams.get i)) := ⟨_, rfl⟩
  have record (j : StreamId) : streams.get j = if j = i then arrivalRecord (s.streams.get i) else s.streams.get j := by
    rw [records, Tab.get_put]
  rw [arrives, ← records]
  rw [← records] at recomputed cells
  refine ⟨fun j => ?streams, fun k => ?contributions, overridesOk_iff.mpr fun c x there => ?overrides, ?targets⟩
  case streams =>
    dsimp only
    rw [record]
    split
    · exact (streamForm_arrived (h.streams i)).1
    · exact h.streams j
  case contributions =>
    dsimp only
    rw [values]
    by_cases updated : updatesKey s i slots k = true
    · cases entry : s.active.patch.get k with
      | none => simp [updatesKey, entry] at updated
      | some e =>
        have here : e.stream = i := by
          simp only [updatesKey, entry, Bool.and_eq_true, beq_iff_eq] at updated
          exact updated.1
        rw [updatedContribution_updated entry updated]
        refine ⟨nofun, fun _ => ⟨e, rfl, .inl ?_, rfl⟩⟩
        rw [record, if_pos here]
        rfl
    · rw [updatedContribution_kept updated]
      obtain ⟨absent, present⟩ := h.contributions k
      refine ⟨absent, fun there => ?_⟩
      obtain ⟨e, entry, state, curved⟩ := present there
      refine ⟨e, entry, ?_, curved⟩
      rw [record]
      split
      · exact .inl rfl
      · exact state
  case overrides =>
    dsimp only at there
    rw [cells] at there
    split at there
    · exact byLoss_lossOverride there
    · next not_held =>
      have right := overridesOk_iff.mp h.overrides c x there
      refine right.of_other (i := i) (fun origin => ?_) fun j other => ?_
      · exact not_held ⟨(right i origin).1, (heldByLoss_iff s i c).mpr ⟨x, there, origin⟩⟩
      · dsimp only
        rw [record, if_neg other]
  case targets =>
    refine h.targets.of_recomputed recomputed fun c not => ?_
    simp only [not_or, not_not] at not
    obtain ⟨same_a, same_b, same_last, quiet⟩ := not
    have kept (q : Position) : contributions.get (keyOf c q) = s.patch.contributions.get (keyOf c q) := by cases q <;> assumption
    refine targetOf_congr_at ?_ rfl same_last fun q => usableValue_congr_at rfl (kept q) fun e entry present => ?_
    · dsimp only
      rw [cells, if_neg fun both => quiet ⟨both.1, .inl both.2⟩]
    · dsimp only
      rw [record]
      split
      · next here =>
        rw [here]
        have present_before : hasPresent s i c = true := (hasPresent_iff s i c).mpr ⟨q, e, entry, here, present⟩
        cases state : (s.streams.get i).state with
        | live => simp [streamUsable, arrivalRecord, state]
        | lost =>
          have hold : (s.streams.get i).policy = .hold := by
            by_contra other
            exact quiet ⟨state, .inr ⟨other, (hasPresent_iff _ i c).mpr ⟨q, e, entry, here, by
              dsimp only; rw [kept]; exact present⟩⟩⟩
          simp [streamUsable, arrivalRecord, state, hold]
        | disabled => exact absurd state on
        | silent => exact absurd present_before (h.not_present (by simp [state]) (by simp [state]) c)
      · rfl

/-! ### Commands (R14, R15, R26 to R28, R69 to R73) -/

/-- Where only the channels recomputed have another override, and the overrides are right, the path is in agreement. -/
theorem PathOk.with_overrides {s : State} (h : PathOk s) (p : Channel → Bool) (o : Tab 24 (Option Override))
    (right : ∀ c x, o.get c = some x → ByLoss s x)
    (others : ∀ c, ¬ p c = true → o.get c = s.target.overrides.get c) :
    PathOk (recompute p { s with target := { s.target with overrides := o } }) := by
  obtain ⟨targets, ramps, recomputes, recomputed⟩ := exists_recomputed p s
    { s with target := { s.target with overrides := o } } rfl rfl
  rw [recomputes]
  exact ⟨h.streams, h.contributions, overridesOk_iff.mpr right, h.targets.of_recomputed recomputed fun c not =>
    targetOf_congr_at (others c not) rfl rfl fun _ => usableValue_congr_at rfl rfl fun _ _ _ => rfl⟩

theorem PathOk.scene {s : State} (h : PathOk s) (n : Fin 8) (m : Option Mask) (p : Option (Fin 16)) :
    PathOk (recompute (recalled s n m) (sceneRecalled s n m p)) := by
  obtain ⟨o, cells⟩ : ∃ o, o = Tab.of (recalledOverride s n m p) := ⟨_, rfl⟩
  rw [sceneRecalled, ← cells]
  refine h.with_overrides _ o (fun c x there => ?_) fun c not => ?_
  · rw [cells, Tab.get_of, recalledOverride] at there
    split at there
    · split at there
      · cases there
        nofun
      · exact overridesOk_iff.mp h.overrides c x there
    · exact overridesOk_iff.mp h.overrides c x there
  · rw [cells, Tab.get_of, recalledOverride]
    split
    · rw [if_neg not]
    · rfl

theorem PathOk.release {s : State} (h : PathOk s) (m : Mask) : PathOk (effect (.release m) s).1 := by
  obtain ⟨o, cells⟩ : ∃ o, o = (reexamine (releasable m s) (removeOverrides (releasable m s) s)).target.overrides := ⟨_, rfl⟩
  have frame : reexamine (releasable m s) (removeOverrides (releasable m s) s) = { s with target := { s.target with
      overrides := o } } := by
    rw [cells]
    simp only [reexamine, removeOverrides]
  have cell (c : Channel) : o.get c = if releasable m s c = true then lossOverride s c else s.target.overrides.get c := by
    rw [cells, reexamine_removed_get]
  rw [effect_release]
  dsimp only
  rw [frame]
  refine h.with_overrides _ o (fun c x there => ?_) fun c not => ?_
  · rw [cell] at there
    split at there
    · exact byLoss_lossOverride there
    · exact overridesOk_iff.mp h.overrides c x there
  · rw [cell, if_neg not]

theorem PathOk.commit {s : State} (h : PathOk s) : PathOk (commit s) := by
  obtain ⟨contributions, targets, ramps, levels, marks, tests, commits, committed⟩ := exists_committed s
  obtain ⟨-, -, -, values, -, -, recomputed, -⟩ := committed s.ring s.command
  rw [commits]
  refine ⟨h.streams, fun k => ?_, h.overrides, fun c => (recomputed c).1 trivial⟩
  dsimp only at values ⊢
  rw [values]
  obtain ⟨absent, present⟩ := h.contributions k
  unfold commitContribution
  cases before : s.active.patch.get k with
  | none => exact ⟨fun _ => ⟨rfl, rfl⟩, nofun⟩
  | some e =>
    cases after : s.staging.staged.patch.get k with
    | none => exact ⟨fun _ => ⟨rfl, rfl⟩, nofun⟩
    | some e' =>
      dsimp only
      by_cases same : e = e'
      · subst same
        rw [if_neg (fun h => h rfl)]
        split
        · next carried =>
          refine ⟨fun none => absurd (carried.1.symm.trans none) nofun, fun there => ?_⟩
          obtain ⟨x, entry, state, -⟩ := present there
          rw [before] at entry
          cases entry
          exact ⟨e, rfl, state, rfl⟩
        · next kept =>
          refine ⟨absent, fun there => ?_⟩
          obtain ⟨x, entry, state, curved⟩ := present there
          rw [before] at entry
          cases entry
          have curve : curveOf s.active e.curve = curveOf s.staging.staged e.curve := by
            by_contra differ
            exact kept ⟨there, differ⟩
          refine ⟨e, rfl, state, ?_⟩
          rw [curved, curvedValue, curvedValue, curve]
      · rw [if_pos same]
        exact ⟨fun _ => ⟨rfl, rfl⟩, nofun⟩

theorem StreamForm.recorded {r : StreamRecord} (form : StreamForm r) {t : TimeoutSetting} (some_ticks : t ≠ .ticks 0)
    (q : LossPolicy) : StreamForm { r with timeout := t, policy := q } := ⟨form.1, some_ticks, form.2.2⟩

theorem PathOk.applySetStream {s : State} (h : PathOk s) (i : StreamId) (e : Bool) {t : TimeoutSetting}
    (some_ticks : t ≠ .ticks 0) (q : LossPolicy) : PathOk (applySetStream i e t q s) := by
  have form := (h.streams i).recorded some_ticks q
  rcases applySetStream_cases i e t q s with ⟨state, rfl, done⟩ | ⟨cases, done⟩ | ⟨state, rfl, done⟩ | ⟨state, rfl, done⟩
    | ⟨-, rfl, done⟩ <;> rw [done]
  · exact h.setStream ⟨fun _ => ⟨rfl, rfl⟩, some_ticks, Nat.zero_le _, Nat.zero_le _⟩ (by simp [state]) (by simp [state])
      (by simp [state])
  · have state : (s.streams.get i).state = .disabled ∨ (s.streams.get i).state = .silent := cases.imp (·.1) (·.1)
    refine h.setStream form id (fun lost => ?_) fun live => ?_
    · rw [lost] at state
      exact state.elim nofun nofun
    · rw [live] at state
      exact state.elim nofun nofun
  · exact (h.setStream form id (by simp [state]) fun live => by simp [streamUsable, live]).expiry i
  · by_cases same : q = (s.streams.get i).policy
    · have kept : changeLostPolicy i (s.streams.get i).policy
          (Machine.setStream i { s.streams.get i with timeout := t, policy := q } s)
          = Machine.setStream i { s.streams.get i with timeout := t, policy := q } s := by
        rw [changeLostPolicy]
        exact if_pos (by rw [setStream_get, if_pos rfl]; exact same)
      rw [kept]
      exact h.setStream form id (fun lost => ⟨lost, same⟩) (by simp [state])
    · exact h.changePolicy form state state same
  · exact h.disable form

/-! ### Every step -/

/-- The level path in agreement, with every LIVE count below its effective timeout. -/
def LevelOk (s : State) : Prop := PathOk s ∧ ∀ i, Early (s.streams.get i)

theorem LevelOk.of_eq {s t : State} (h : LevelOk s) (active : t.active = s.active) (streams : t.streams = s.streams)
    (patch : t.patch = s.patch) (target : t.target = s.target) : LevelOk t := by
  obtain ⟨⟨form, contributions, overrides, targets⟩, early⟩ := h
  refine ⟨⟨by rwa [streams], ?_, ?_, fun c => ?_⟩, by rwa [streams]⟩
  · unfold ContributionsOk
    rw [patch, active, streams]
    exact contributions
  · unfold OverridesOk
    rw [target, streams]
    exact overrides
  · rw [targetOf_congr (by rw [target]) streams patch active, target]
    exact targets c

/-- SET STREAM loses a LIVE stream whose count has reached its new timeout (R72). -/
theorem LevelOk.early_applied {s : State} (h : LevelOk s) (i : StreamId) (e : Bool) (t : TimeoutSetting) (q : LossPolicy)
    (j : StreamId) : Early ((applySetStream i e t q s).streams.get j) := by
  obtain ⟨_, _, _, _, applies, records, -⟩ := exists_applied i e t q s
  rw [applies]
  dsimp only
  rw [records]
  split
  · cases state : (s.streams.get i).state <;> cases e <;> dsimp only
    case live.true =>
      split
      · nofun
      · next early => exact fun _ => Nat.not_le.mp early
    all_goals
      intro live
      simp at live
  · exact h.2 j

theorem levelOk_reset : LevelOk State.reset := by
  obtain ⟨-, -, ⟨streams, contributions, overrides, targets⟩, -⟩ := resetMeetsInvariants
  obtain ⟨form, early⟩ := streamsOk_iff.mp streams
  exact ⟨⟨form, contributions, overrides, targets⟩, early⟩

theorem level_keptByCommands : KeptByCommands LevelOk where
  link := fun _ _ _ _ _ _ _ _ h => h.of_eq rfl rfl rfl rfl
  staging := fun _ _ _ h => h.of_eq rfl rfl rfl rfl
  commit := fun s _ h => ⟨h.1.commit, by rw [commit_streams]; exact h.2⟩
  setStream := fun i e t q s some_ticks _ h => ⟨h.1.applySetStream i e some_ticks q, h.early_applied i e t q⟩
  scene := fun n m p s _ h => ⟨h.1.scene n m p, by
    rw [recompute_streams, sceneRecalled]
    dsimp only
    exact h.2⟩
  release := fun m s h => ⟨h.1.release m, by
    simp only [effect, effectRelease, recompute_streams, reexamine_streams, removeOverrides_streams]
    exact h.2⟩
  formed := fun s o a _ h => LevelOk.of_eq (s := { s with output := o, audit := a }) (h.of_eq rfl rfl rfl rfl)
    (formOutputs_active _) (formOutputs_streams _) (formOutputs_patch _) (formOutputs_target _)
  reset := fun s th _ => levelOk_reset.of_eq (by rfl) (by rfl) (by rfl) (by rfl)

/-- The counting of a tick leaves the path in agreement; a count that has reached its timeout is lost by its examination. -/
theorem LevelOk.tick {s : State} (h : LevelOk s) (order : List StreamId) : LevelOk (takeTick order s) := by
  obtain ⟨path, early⟩ := h
  obtain ⟨raised, records⟩ : ∃ x : Tab 16 StreamRecord, x = Tab.of fun i =>
    if (s.streams.get i).state = .live then { s.streams.get i with ticks := (s.streams.get i).ticks + 1 } else s.streams.get i :=
    ⟨_, rfl⟩
  have record (i : StreamId) : raised.get i = if (s.streams.get i).state = .live then
      { s.streams.get i with ticks := (s.streams.get i).ticks + 1 } else s.streams.get i := by rw [records, Tab.get_of]
  have state (i : StreamId) : (raised.get i).state = (s.streams.get i).state := by rw [record]; split <;> rfl
  have policy (i : StreamId) : (raised.get i).policy = (s.streams.get i).policy := by rw [record]; split <;> rfl
  have counted : countTicks { s with tickCount := s.tickCount + 1 } = { s with
      tickCount := s.tickCount + 1, streams := raised } := by
    rw [countTicks, records]
  have path' : PathOk { s with tickCount := s.tickCount + 1, streams := raised } := by
    refine ⟨fun i => ?_, fun k => ?_, fun c o i there origin => ?_, fun c => ?_⟩
    · dsimp only
      rw [record]
      split
      · next live =>
        have below := early i live
        have most := effectiveTimeout_le (s.streams.get i)
        obtain ⟨-, some_ticks, measured, -⟩ := path.streams i
        refine ⟨fun dead => ?_, some_ticks, measured, ?_⟩
        · simp [live] at dead
        · dsimp only
          omega
      · exact path.streams i
    · obtain ⟨absent, present⟩ := path.contributions k
      refine ⟨absent, fun there => ?_⟩
      obtain ⟨e, entry, alive, curved⟩ := present there
      exact ⟨e, entry, by dsimp only; rwa [state], curved⟩
    · dsimp only
      rw [state, policy]
      exact path.overrides c o i there origin
    · refine (path.targets c).trans (Eq.symm ?_)
      refine targetOf_congr_at rfl rfl rfl fun q => usableValue_congr_at rfl rfl fun e _ _ => ?_
      simp only [streamUsable, state, policy]
  rw [takeTick, counted]
  exact ⟨path'.examinedInTurn _, early_examined order _⟩

theorem LevelOk.expiry {s : State} (h : LevelOk s) (i : StreamId) : LevelOk (examineExpiry i s) := by
  rcases examineExpiry_cases i s with ⟨due, -⟩ | ⟨-, done⟩
  · obtain ⟨live, late⟩ := (expiryDue_iff _).mp due
    exact absurd (h.2 i live) (Nat.not_lt.mpr late)
  · rwa [done]

theorem level_keptByParts : KeptByParts LevelOk where
  toKeptByCommands := level_keptByCommands
  arrival := fun i slots s on h => ⟨h.1.arrive on slots, fun j => by
    obtain ⟨_, _, _, _, _, arrives, -⟩ := exists_arrival i slots s
    rw [arrives]
    dsimp only
    rw [Tab.get_put]
    split
    · exact (streamForm_arrived (h.1.streams i)).2
    · exact h.2 j⟩
  tick := fun order _ h => h.tick order
  expiry := fun i _ h => h.expiry i
  boundary := level_keptByCommands.boundary (fun _ _ _ _ h => h.of_eq rfl rfl rfl rfl) fun s h =>
    h.of_eq (stepRamps_active s) (stepRamps_streams s) (stepRamps_patch s) (stepRamps_target s)
  delay := fun _ _ h => h.of_eq rfl rfl rfl rfl

end Sys2Proof.Machine

open Sys2Proof Sys2Proof.Machine

/-- Settles O6: wherever a usable contribution or an override changes, its channel is recomputed. -/
theorem levelPathKept : Obligations.LevelPathKept := by
  intro s t streams contributions overrides targets run
  obtain ⟨form, early⟩ := streamsOk_iff.mp streams
  obtain ⟨path, early'⟩ := level_keptByParts.step ⟨⟨form, contributions, overrides, targets⟩, early⟩ run
  exact ⟨streamsOk_iff.mpr ⟨path.streams, early'⟩, path.contributions, path.overrides, path.targets⟩
end

section
/-! PROOF. READ and the layouts of its data (O54). -/

namespace Sys2Proof.Machine

/-! ### Fields filled with 0 (R196) -/

theorem flatMap_wordBytes_zeros (n : Nat) : (List.replicate n (0 : BitVec 16)).flatMap wordBytes = List.replicate (2 * n) 0 := by
  induction n with
  | zero => rfl
  | succ n ih =>
    rw [List.replicate_succ, List.flatMap_cons, ih, Nat.mul_succ, Nat.add_comm, ← List.replicate_append_replicate]
    rfl

theorem filledWords_eq {l : List (BitVec 16)} {n : Nat} (short : l.length ≤ n) :
    filledWords n l = l.flatMap wordBytes ++ List.replicate (2 * (n - l.length)) 0 := by
  rw [filledWords, ← flatMap_wordBytes_zeros, ← List.flatMap_append, ← filled_eq short, List.flatMap_map]

theorem filledWords_length (n : Nat) (l : List (BitVec 16)) : (filledWords n l).length = 2 * n := by
  rw [filledWords, ← List.flatMap_map, length_flatMap_wordBytes, List.length_map, List.length_range]

/-! ### Layouts -/

theorem readProfile_zero {p : Profile} (ok : ProfileOk p) :
    readProfile (some p) 0 = [1, p.delay, byteOf p.segments.length]
      ++ p.segments.dropLast.flatMap (fun g => wordBytes (BitVec.ofNat 16 g.bound))
      ++ List.replicate (2 * (4 - p.segments.length)) 0 := by
  obtain ⟨some_segment, four, -⟩ := ok
  have bounds : (writtenBounds p).length = p.segments.length - 1 := by rw [writtenBounds, List.length_map, List.length_dropLast]
  have written : readProfile (some p) 0 = [1, p.delay, byteOf p.segments.length] ++ filledWords 3 (writtenBounds p) := rfl
  rw [written, filledWords_eq (by omega), bounds, writtenBounds, List.flatMap_map, List.append_assoc,
    show 3 - (p.segments.length - 1) = 4 - p.segments.length by omega]

theorem readProfile_one {p : Profile} (ok : ProfileOk p) :
    readProfile (some p) 1 = [1, byteOf p.segments.length]
      ++ p.segments.flatMap (fun g => wordBytes g.rise ++ wordBytes g.fall)
      ++ List.replicate (4 * (4 - p.segments.length)) 0 := by
  obtain ⟨-, four, -⟩ := ok
  have steps : (p.segments.flatMap fun g => [g.rise, g.fall]).length = 2 * p.segments.length := by
    simp [List.length_flatMap, Nat.mul_comm]
  have written : readProfile (some p) 1
      = [1, byteOf p.segments.length] ++ filledWords 8 (p.segments.flatMap fun g => [g.rise, g.fall]) := rfl
  have bytes : (p.segments.flatMap fun g => [g.rise, g.fall]).flatMap wordBytes
      = p.segments.flatMap fun g => wordBytes g.rise ++ wordBytes g.fall := by
    rw [List.flatMap_assoc]
    simp
  rw [written, filledWords_eq (by omega), steps, bytes, List.append_assoc,
    show 2 * (8 - 2 * p.segments.length) = 4 * (4 - p.segments.length) by omega]

theorem readCurve_none {t : TableSet} {n : Fin 8} (undefined : curveOf t n = none) (j : Fin 3) :
    readCurve t n j = (if n = 0 then 2 else 0) :: List.replicate (2 * if j.val = 2 then 5 else 6) 0 := by
  have state : curveStateCode t n = if n = 0 then 2 else 0 := by
    simp only [curveStateCode, undefined, Option.isSome_none, flagCode, Bool.false_eq_true, if_false, Fin.val_eq_zero_iff]
  rw [readCurve, undefined, state, filledWords_eq (Nat.zero_le _)]
  rfl

theorem readCurve_some {t : TableSet} {n : Fin 8} {p : Curve} (defined : curveOf t n = some p) (j : Fin 3) :
    readCurve t n j = 1 :: (List.range (if j.val = 2 then 5 else 6)).flatMap
      fun i => wordBytes (p.get (Fin.ofNat 17 (6 * j.val + i))) := by
  have other : n.val ≠ 0 := fun zero => by
    rw [show n = 0 from Fin.ext zero] at defined
    cases defined
  have state : curveStateCode t n = 1 := by simp [curveStateCode, other, defined, flagCode]
  rw [readCurve, defined, state]
  refine congrArg _ (List.flatMap_congr fun i there => ?_)
  have small : 6 * j.val + i < 17 := by
    have := List.mem_range.mp there
    split at this <;> omega
  have point : (((List.finRange 17).map p.get).drop (6 * j.val)).getD i 0 = p.get (Fin.ofNat 17 (6 * j.val + i)) := by
    rw [List.getD_eq_getElem?_getD, List.getElem?_drop, List.getElem?_map, List.getElem?_eq_getElem (by simpa using small)]
    simp [Fin.ofNat, Nat.mod_eq_of_lt small]
  exact congrArg _ point

theorem readScene_some (y : Scene) (j : Fin 4) :
    let part := (((List.finRange 24).filterMap y.get).drop (6 * j.val)).take 6
    readScene (some y) j = [1] ++ maskBytes (namedMask y) ++ [byteOf part.length] ++ part.flatMap wordBytes
      ++ List.replicate (2 * (6 - part.length)) 0 := by
  intro part
  have written : readScene (some y) j = [1] ++ maskBytes (namedMask y) ++ [byteOf part.length] ++ filledWords 6 part := rfl
  rw [written, filledWords_eq (List.length_take_le 6 _), ← List.append_assoc]

theorem readContribution_eq (x : Contribution) :
    readContribution x = if x.present = true then 1 :: wordBytes x.curved else List.replicate 3 0 := by
  obtain ⟨present, raw, curved⟩ := x
  cases present <;> rfl

theorem readChannelStatus_eq (s : State) (c : Channel) :
    let r := s.ramps.get c
    let contribution := fun q => let x := s.patch.contributions.get (keyOf c q)
      if x.present = true then 1 :: wordBytes x.curved else List.replicate 3 0
    readChannelStatus s c = [rampStateNumber r.state] ++ wordBytes r.level ++ wordBytes (s.target.targets.get c)
      ++ (match s.target.overrides.get c with
          | none => List.replicate 4 0
          | some o => (match o.origin with | .command => [1, 0] | .loss i => [2, byteOf i]) ++ wordBytes o.level)
      ++ [latchNumber (s.output.monitors.get c).latch, auditResultNumber (s.audit.results.get c)]
      ++ contribution .a ++ contribution .b := by
  intro r contribution
  have codes : rampStateCode r.state = rampStateNumber r.state := by cases r.state <;> rfl
  have latch (x : Option FaultKind) : latchCode x = latchNumber x := by rcases x with _ | _ | _ <;> rfl
  have entry (x : AuditResult) : auditResultCode x = auditResultNumber x := by cases x <;> rfl
  have present (q : Position) : readContribution (contributionAt s c q) = contribution q := readContribution_eq _
  have override : readOverride (s.target.overrides.get c) = match s.target.overrides.get c with
      | none => List.replicate 4 0
      | some o => (match o.origin with | .command => [1, 0] | .loss i => [2, byteOf i]) ++ wordBytes o.level := by
    cases s.target.overrides.get c <;> rfl
  rw [readChannelStatus, codes, latch, entry, present, present, override]

theorem readStreamStatus_eq (r : StreamRecord) :
    readStreamStatus r = [if r.state = .disabled then 0 else 1, streamStateNumber r.state]
      ++ wordBytes (match r.timeout with | .auto => 0 | .ticks n => n)
      ++ (match r.policy with | .hold => [0, 0] | .release => [1, 0] | .scene n => [2, byteOf n])
      ++ wordBytes (BitVec.ofNat 16 r.measured) ++ wordBytes (BitVec.ofNat 16 r.ticks)
      ++ wordBytes (BitVec.ofNat 16 (effectiveTimeout r)) := by
  have on : flagCode (enabled r) = if r.state = .disabled then 0 else 1 := by cases state : r.state <;> simp [enabled, flagCode, state]
  have timeout : timeoutField r.timeout = match r.timeout with | .auto => 0 | .ticks n => n := by cases r.timeout <;> rfl
  have policy : [policyCode r.policy, policySceneCode r.policy]
      = match r.policy with | .hold => [0, 0] | .release => [1, 0] | .scene n => [2, byteOf n] := by cases r.policy <;> rfl
  rw [readStreamStatus, on, streamStateCode_eq_number, timeout, policy]
  rfl

theorem readProfile_length (p : Option Profile) (j : Fin 2) : (readProfile p j).length = if j.val = 0 then 9 else 18 := by
  match p, j with
  | none, 0 => rfl
  | none, 1 => rfl
  | some q, 0 =>
    have written : readProfile (some q) 0 = [1, q.delay, byteOf q.segments.length] ++ filledWords 3 (writtenBounds q) := rfl
    rw [written, List.length_append, filledWords_length]
    rfl
  | some q, 1 =>
    have written : readProfile (some q) 1
      = [1, byteOf q.segments.length] ++ filledWords 8 (q.segments.flatMap fun g => [g.rise, g.fall]) := rfl
    rw [written, List.length_append, filledWords_length]
    rfl

/-- The data of every READ fit a record (R136). -/
theorem readData_length (s : State) (item : ReadItem) : (readData s item).length ≤ 20 := by
  cases item with
  | patchEntry t k =>
    simp only [readData]
    cases (tableSet s t).patch.get k <;> simp [readPatchEntry]
  | channelConfig t c => simp [readData, readChannelConfig]
  | profile t n j =>
    rw [readData, readProfile_length]
    split <;> omega
  | curve t n j =>
    simp only [readData, readCurve, List.length_cons, filledWords_length]
    split <;> omega
  | scene t n j =>
    simp only [readData]
    cases (tableSet s t).scenes.get n <;> simp [readScene, filledWords_length, maskBytes]
  | channelStatus c =>
    have contribution (q : Position) : (readContribution (contributionAt s c q)).length = 3 := by
      rw [readContribution]
      split <;> simp
    have override : (readOverride (s.target.overrides.get c)).length = 4 := by
      cases s.target.overrides.get c with
      | none => rfl
      | some o => cases origin : o.origin <;> simp [readOverride, origin]
    simp [readData, readChannelStatus, contribution, override]
  | streamStatus i => simp [readData, readStreamStatus, numberBytes]
  | nodeStatus => simp [readData, readNodeStatus]

end Sys2Proof.Machine

open Sys2Proof Sys2Proof.Machine

/-- Settles O54: a READ changes no state, and its data are in the layout of each item. -/
theorem readReports : Obligations.ReadReports := by
  intro s seq ready reads setOf zeros number
  have sets (x : SetName) : tableSet s x = setOf x := by cases x <;> rfl
  have read {item : ReadItem} {data : List Byte} (layout : readData s item = data) : reads item data :=
    exec_ready_done (c := .read item) trivial ready rfl (by rw [effect, effectRead, layout])
  refine ⟨fun x k none => read ?_, fun x k e entry => read ?_, fun x c => read ?_, fun x n none => ⟨read ?_, read ?_⟩,
    fun x n p profile ok => ⟨read ?_, read ?_⟩, fun x => ⟨read rfl, read rfl⟩, fun x n none => ?_, fun x n p curve => ?_,
    fun x n j none => read ?_, fun x n j y scene => read ?_, fun c => read (readChannelStatus_eq s c), fun i =>
    read (readStreamStatus_eq _)⟩
  · rw [readData, sets, none]
    rfl
  · rw [readData, sets, entry]
    rfl
  · rw [readData, sets, readChannelConfig]
    cases (setOf x).config.get c with
    | mk profile mergeRule rest faultAction phase => cases mergeRule <;> cases faultAction <;> rfl
  · rw [readData, sets, none]
    rfl
  · rw [readData, sets, none]
    rfl
  · rw [readData, sets, profile, readProfile_zero ok]
  · rw [readData, sets, profile, readProfile_one ok]
  · rw [← sets] at none
    exact ⟨read (readCurve_none none 0), read (readCurve_none none 1), read (readCurve_none none 2)⟩
  · rw [← sets] at curve
    exact ⟨read (readCurve_some curve 0), read (readCurve_some curve 1), read (readCurve_some curve 2)⟩
  · rw [readData, sets, none]
    rfl
  · rw [readData, sets, scene]
    exact readScene_some y j
end

section
/-! PROOF. Every step keeps the three collections of the command unit and the audit in agreement (O7). -/

namespace Sys2Proof.Machine

/-! ### The three collections (R136, R137) -/

/-- The collections in their capacities and places, whatever waits. -/
structure UnitForm (u : CommandUnit) : Prop where
  queue : u.queue.length ≤ 4
  replies : u.replies.length ≤ 8
  distinct : ((heldRecords u).map Record.seq).Nodup
  running : ∀ r, u.running = some r → r.status = .running
  waiting : ∀ r ∈ u.queue, r.status = .queued
  ended : ∀ r ∈ u.replies, (r.status = .done ∨ r.status = .refused) ∧ r.data.length ≤ 20

theorem windowOk_iff {s : State} :
    WindowOk s ↔ UnitForm s.command ∧ (s.command.queue ≠ [] → s.command.running.isSome = true) :=
  ⟨fun ⟨queue, replies, distinct, running, waiting, ended, behind⟩ => ⟨⟨queue, replies, distinct, running, waiting, ended⟩, behind⟩,
    fun ⟨⟨queue, replies, distinct, running, waiting, ended⟩, behind⟩ => ⟨queue, replies, distinct, running, waiting, ended, behind⟩⟩

theorem appended_sublist (l : List Record) (r : Record) : (appended l r).Sublist (l ++ [r]) := by
  unfold appended
  split
  · exact List.Sublist.refl _
  · exact (List.tail_sublist l).append_right [r]

theorem appended_length {l : List Record} (r : Record) (few : l.length ≤ 8) : (appended l r).length ≤ 8 := by
  unfold appended
  split
  · rw [List.length_append, List.length_singleton]
    omega
  · rw [List.length_append, List.length_singleton, List.length_tail]
    omega

/-- A record that has ended, as the reply list holds it (R136). -/
def EndedRecord (r : Record) : Prop := (r.status = .done ∨ r.status = .refused) ∧ r.data.length ≤ 20

theorem seqFree_iff {u : CommandUnit} {x : Byte} : SeqFree u x ↔ x ∉ (heldRecords u).map Record.seq := by
  simp [SeqFree]

namespace UnitForm

variable {u : CommandUnit} (form : UnitForm u)
include form

theorem ended_appended {r : Record} (ends : EndedRecord r) :
    ∀ x ∈ appended u.replies r, (x.status = .done ∨ x.status = .refused) ∧ x.data.length ≤ 20 := fun x there =>
  (mem_appended there).elim (form.ended x) fun is => is ▸ ends

/-- A record of a free number is added to the reply list (R137). -/
theorem withReply {r : Record} (free : SeqFree u r.seq) (ends : EndedRecord r) : UnitForm (withReply u r) where
  queue := form.queue
  replies := appended_length r form.replies
  distinct := by
    have held : (heldRecords (Machine.withReply u r)).Sublist (heldRecords u ++ [r]) := by
      simp only [heldRecords, Machine.withReply, List.append_assoc]
      exact ((appended_sublist u.replies r).append_left u.queue).append_left _
    refine (held.map Record.seq).nodup ?_
    rw [List.map_append, List.nodup_append]
    refine ⟨form.distinct, List.nodup_singleton _, fun x there y last => ?_⟩
    rw [List.map_singleton, List.mem_singleton] at last
    rw [last]
    rintro rfl
    exact seqFree_iff.mp free there
  running := form.running
  waiting := form.waiting
  ended := form.ended_appended ends

/-- The running record ends and moves to the reply list (R101, R103). -/
theorem endRunning {r r' : Record} (runs : u.running = some r) (same : r'.seq = r.seq) (ends : EndedRecord r') :
    UnitForm { Machine.withReply u r' with running := none } where
  queue := form.queue
  replies := appended_length r' form.replies
  distinct := by
    have held : (heldRecords { Machine.withReply u r' with running := none }).Sublist (u.queue ++ u.replies ++ [r']) := by
      simp only [heldRecords, Machine.withReply, Option.toList_none, List.nil_append, List.append_assoc]
      exact (appended_sublist u.replies r').append_left u.queue
    refine (held.map Record.seq).nodup ?_
    have distinct := form.distinct
    rw [heldRecords, runs, Option.toList_some, List.append_assoc, List.singleton_append, List.map_cons] at distinct
    rw [List.map_append, List.map_singleton, same]
    exact (List.perm_append_singleton _ _).nodup_iff.mpr distinct
  running := nofun
  waiting := form.waiting
  ended := form.ended_appended ends

/-- The oldest waiting record leaves the queue (R140). -/
theorem dequeue {x : Record} {rest : List Record} (idle : u.running = none) (front : u.queue = x :: rest) :
    UnitForm { u with queue := rest } ∧ SeqFree { u with queue := rest } x.seq := by
  have distinct := form.distinct
  rw [heldRecords, idle, front, Option.toList_none, List.nil_append, List.cons_append, List.map_cons, List.nodup_cons] at distinct
  have queue := form.queue
  rw [front, List.length_cons] at queue
  have held : heldRecords { u with queue := rest } = rest ++ u.replies := by
    rw [heldRecords, idle]
    rfl
  refine ⟨⟨by dsimp only; omega, form.replies, ?_, form.running, fun r there => ?_, form.ended⟩, ?_⟩
  · rw [held]
    exact distinct.2
  · exact form.waiting r (front ▸ List.mem_cons_of_mem _ there)
  · rw [seqFree_iff, held]
    exact distinct.1

/-- A command of a free number waits behind the running one (R139). -/
theorem enqueue {r : Record} (free : SeqFree u r.seq) (room : u.queue.length < 4) (status : r.status = .queued) :
    UnitForm { u with queue := u.queue ++ [r] } where
  queue := by
    rw [List.length_append, List.length_singleton]
    omega
  replies := form.replies
  distinct := by
    have held : (heldRecords { u with queue := u.queue ++ [r] }).Perm (r :: heldRecords u) := by
      simp only [heldRecords, List.append_assoc, List.singleton_append]
      exact (List.perm_middle.append_left _).trans List.perm_middle
    refine (held.map Record.seq).nodup_iff.mpr ?_
    rw [List.map_cons, List.nodup_cons]
    exact ⟨seqFree_iff.mp free, form.distinct⟩
  running := form.running
  waiting := fun x there => (List.mem_append.mp there).elim (form.waiting x) fun last => by
    rw [List.mem_singleton.mp last]
    exact status
  ended := form.ended

/-- The record of an audit that begins takes the running slot (R98). -/
theorem begin {r : Record} (idle : u.running = none) (free : SeqFree u r.seq) (status : r.status = .running) :
    UnitForm { u with running := some r } where
  queue := form.queue
  replies := form.replies
  distinct := by
    have distinct := form.distinct
    have free := seqFree_iff.mp free
    rw [heldRecords, idle, Option.toList_none, List.nil_append] at distinct free
    rw [heldRecords, Option.toList_some, List.append_assoc, List.singleton_append, List.map_cons, List.nodup_cons]
    exact ⟨free, distinct⟩
  running := fun x is => by
    rw [← Option.some.inj is]
    exact status
  waiting := form.waiting
  ended := form.ended

theorem groups (g : List Byte) : UnitForm { u with groups := g } :=
  ⟨form.queue, form.replies, form.distinct, form.running, form.waiting, form.ended⟩

end UnitForm

/-! ### Command unit and audit together (R96) -/

/-- A running audit under an output stage. -/
def RunOk (o : OutputStage) (run : AuditRun) : Prop :=
  o.switchOn = true ∧ o.thermal ≠ .hot ∧ 4 ≤ run.dwell ∧ run.dwell ≤ 64 ∧ run.periods < run.dwell ∧ run.testLevel ≠ 0
    ∧ ∃ c, run.under = some c ∧ inMask run.mask c = true

theorem auditOk_iff {s : State} : AuditOk s ↔ s.command.running.isSome = s.audit.run.isSome
    ∧ ∀ run, s.audit.run = some run → RunOk s.output run := Iff.rfl

/-- The collections in their form and the audit in agreement with them, whatever waits. -/
def Between (s : State) : Prop := UnitForm s.command ∧ AuditOk s

theorem AuditOk.idle {s : State} (h : AuditOk s) (idle : s.command.running = none) : s.audit.run = none := by
  have same := h.1
  rw [idle] at same
  exact Option.isNone_iff_eq_none.mp (by simpa using same.symm)

/-- A running audit has its record in the running slot and a channel under test. -/
theorem AuditOk.running {s : State} (h : AuditOk s) {run : AuditRun} (runs : s.audit.run = some run) :
    ∃ r c, s.command.running = some r ∧ run.under = some c := by
  obtain ⟨-, -, -, -, -, -, c, under, -⟩ := h.2 run runs
  have same := h.1
  rw [runs] at same
  obtain ⟨r, record⟩ := Option.isSome_iff_exists.mp same
  exact ⟨r, c, record, under⟩

theorem AuditOk.of_eq {s t : State} (h : AuditOk s) (running : t.command.running = s.command.running)
    (audit : t.audit = s.audit) (switchOn : t.output.switchOn = s.output.switchOn ∨ t.output.switchOn = true)
    (thermal : t.output.thermal = s.output.thermal) : AuditOk t := by
  obtain ⟨same, runs⟩ := h
  refine ⟨by rw [running, audit, same], fun run is => ?_⟩
  obtain ⟨on, rest⟩ := runs run (audit ▸ is)
  rw [thermal]
  exact ⟨switchOn.elim (·.trans on) id, rest⟩

theorem auditOk_ended {s : State} (idle : s.audit.run = none) (empty : s.command.running = none) : AuditOk s :=
  ⟨by rw [idle, empty]; rfl, fun run is => by rw [idle] at is; cases is⟩

/-! ### The end of an audit (R101, R103, R105) -/

/-- From `s` to `t` any audit that ran has ended: its record is in the reply list, and no number is newly held. -/
structure AuditEnded (s t : State) : Prop where
  form : UnitForm t.command
  free : ∀ x, SeqFree s.command x → SeqFree t.command x
  queue : t.command.queue = s.command.queue
  running : t.command.running = none
  idle : t.audit.run = none

theorem AuditEnded.between {s t : State} (h : AuditEnded s t) : Between t := ⟨h.form, auditOk_ended h.idle h.running⟩

theorem AuditEnded.of_eq {s t u : State} (h : AuditEnded s t) (command : u.command = t.command) (audit : u.audit = t.audit) :
    AuditEnded s u :=
  ⟨by rw [command]; exact h.form, by rw [command]; exact h.free, by rw [command]; exact h.queue, by rw [command]; exact h.running,
    by rw [audit]; exact h.idle⟩

theorem auditRecord_ended (r : Record) (result : ResultCode) (t : Tallies) : EndedRecord (auditRecord r result t) :=
  ⟨.inl rfl, by simp [auditRecord]⟩

/-- The record of the audit that ran, moved to the reply list. -/
theorem auditEnded_of_running {s t : State} {r : Record} {result : ResultCode} {tallies : Tallies} (form : UnitForm s.command)
    (record : s.command.running = some r)
    (command : t.command = { withReply s.command (auditRecord r result tallies) with running := none })
    (idle : t.audit.run = none) : AuditEnded s t := by
  refine ⟨?_, fun x free y there => ?_, ?_, ?_, idle⟩
  · rw [command]
    exact form.endRunning record rfl (auditRecord_ended r result tallies)
  · rw [command, mem_heldRecords] at there
    rcases there with runs | waits | replied
    · cases runs
    · exact free y (mem_heldRecords.mpr (.inr (.inl waits)))
    · rcases mem_appended replied with inside | rfl
      · exact free y (mem_heldRecords.mpr (.inr (.inr inside)))
      · exact free r (mem_heldRecords.mpr (.inl record))
  · rw [command]
    rfl
  · rw [command]

theorem auditEnded_idle {s t : State} (form : UnitForm s.command) (audit : AuditOk s) (idle : s.audit.run = none)
    (command : t.command = s.command) (same : t.audit.run = none) : AuditEnded s t := by
  have empty : s.command.running = none := by
    have both := audit.1
    rw [idle] at both
    exact Option.isNone_iff_eq_none.mp (by simpa using both)
  exact ⟨by rw [command]; exact form, by rw [command]; exact fun _ free => free, by rw [command], by rw [command]; exact empty, same⟩

/-- Whether an audit runs or not, none runs after an abort. -/
theorem abortAudit_ended {s : State} (form : UnitForm s.command) (audit : AuditOk s) (o : OutputStage) :
    AuditEnded s (formOutputs (abortAudit { s with output := o })) := by
  have aborted : AuditEnded s (abortAudit { s with output := o }) := by
    cases runs : s.audit.run with
    | none =>
      rw [abortAudit_idle { s with output := o } runs]
      exact auditEnded_idle form audit runs rfl runs
    | some run =>
      obtain ⟨r, c, record, under⟩ := audit.running runs
      rw [abortAudit_running { s with output := o } run c r runs under record]
      exact auditEnded_of_running form record rfl rfl
  exact aborted.of_eq (formOutputs_command _) (formOutputs_audit _)

/-! ### Commands -/

/-- The data of a reply fit a record (R136). -/
def Short : Ended → Prop
  | .done data => data.length ≤ 20
  | .refused _ data => data.length ≤ 20
  | .began => True

theorem stage_short (write : TableSet → TableSet) (s : State) : Short (stage write s).2 := by
  rcases stage_cases write s with ⟨-, staged⟩ | ⟨-, staged⟩ <;> rw [staged]
  · exact Nat.zero_le _
  · exact Nat.zero_le _

theorem validated_short {s t : State} {ended : Ended} (short : Short ended) : Short (validated s (t, ended)).2 := by
  unfold validated
  split
  · simp [Short, invalidBytes]
  · exact short

theorem effect_short (c : Cmd) (s : State) : Short (effect c s).2 := by
  cases c with
  | writePatch | writeChannel | writeProfile | writeCurve | writeScene => exact stage_short _ s
  | arm e =>
    simp only [effect, effectArm]
    split
    · exact Nat.zero_le _
    · exact validated_short (Nat.zero_le _)
  | disarm =>
    simp only [effect, effectDisarm]
    split <;> exact Nat.zero_le _
  | commitNow =>
    simp only [effect, effectCommitNow]
    split
    · exact Nat.zero_le _
    · exact validated_short (Nat.zero_le _)
    · exact Nat.zero_le _
  | setStream i e t q =>
    simp only [effect]
    cases named : policyNamed s q with
    | true => rw [effectSetStream_named named]; simp [Short]
    | false => rw [effectSetStream_unnamed named]; simp [Short]
  | recallScene n m p =>
    simp only [effect]
    cases both : ((s.active.scenes.get n).isSome && profileNamed s p) with
    | true =>
      obtain ⟨scene, named⟩ := Bool.and_eq_true_iff.mp both
      rw [effectRecallScene_named scene named]
      simp [Short]
    | false => rw [effectRecallScene_unnamed both]; simp [Short]
  | release m =>
    rw [effect_release]
    simp [Short]
  | startAudit m l d =>
    rcases effect_startAudit_cases m l d s with ends | ⟨-, ⟨c, tallies, results, -, ends⟩ | ⟨results, x, ends⟩⟩ <;> rw [ends]
    · exact Nat.zero_le _
    · trivial
    · simp [Short]
  | read item => exact readData_length s item
  | clearFaults m => simp [effect, effectClearFaults, Short]
  | setGroups | copyActive | outputsOn | outputsOff | abortAudit | setCeiling | nodeReset => exact Nat.zero_le _

/-- START AUDIT alone begins an audit. -/
theorem effect_began {c : Cmd} {s : State} (began : (effect c s).2 = .began) : ∃ m l d, c = .startAudit m l d := by
  cases c with
  | startAudit m l d => exact ⟨m, l, d, rfl⟩
  | writePatch | writeChannel | writeProfile | writeCurve | writeScene =>
    simp only [effect, effectWritePatch, effectWriteChannel, effectWriteProfile, effectWriteCurve, effectWriteScene, stage] at began
    split at began <;> cases began
  | arm e =>
    simp only [effect, effectArm, validated] at began
    split at began
    · cases began
    · split at began <;> cases began
  | disarm =>
    simp only [effect, effectDisarm] at began
    split at began <;> cases began
  | commitNow =>
    simp only [effect, effectCommitNow, validated] at began
    split at began
    · cases began
    · split at began <;> cases began
    · cases began
  | setStream i e t q =>
    cases named : policyNamed s q with
    | true => rw [effect, effectSetStream_named named] at began; cases began
    | false => rw [effect, effectSetStream_unnamed named] at began; cases began
  | recallScene n m p =>
    cases both : ((s.active.scenes.get n).isSome && profileNamed s p) with
    | true =>
      obtain ⟨scene, named⟩ := Bool.and_eq_true_iff.mp both
      rw [effect, effectRecallScene_named scene named] at began
      cases began
    | false => rw [effect, effectRecallScene_unnamed both] at began; cases began
  | _ => cases began

/-- What an effect leaves of the collections and the audit: both in agreement where the command has ended, and an audit without a
record where it has begun. -/
structure EffectOk (s t : State) (ended : Ended) : Prop where
  form : UnitForm t.command
  free : ∀ x, SeqFree s.command x → SeqFree t.command x
  audit : ended ≠ .began → AuditOk t
  began : ended = .began → t.command.running = none ∧ ∃ run, t.audit.run = some run ∧ RunOk t.output run

theorem AuditEnded.effectOk {s t : State} (h : AuditEnded s t) (data : List Byte) : EffectOk s t (.done data) :=
  ⟨h.form, h.free, fun _ => h.between.2, nofun⟩

theorem effect_ok {c : Cmd} (ok : CmdOk c) {s : State} (between : Between s)
    (idle : ∀ m l d, c = .startAudit m l d → s.command.running = none) : EffectOk s (effect c s).1 (effect c s).2 := by
  obtain ⟨form, audit⟩ := between
  by_cases off : c = .outputsOff
  · subst off
    exact (abortAudit_ended form audit { s.output with switchOn := false }).effectOk []
  by_cases abort : c = .abortAudit
  · subst abort
    simp only [effect, effectAbortAudit]
    split
    · exact (abortAudit_ended form audit s.output).effectOk []
    · exact ⟨form, fun _ free => free, fun _ => audit, nofun⟩
  by_cases reset : c = .nodeReset
  · subst reset
    refine ⟨⟨Nat.zero_le _, Nat.zero_le _, List.nodup_nil, nofun, nofun, nofun⟩, fun x _ => nofun, fun _ => ?_, nofun⟩
    exact auditOk_ended rfl rfl
  by_cases starts : ∃ m l d, c = .startAudit m l d
  · obtain ⟨m, l, d, rfl⟩ := starts
    have empty := idle m l d rfl
    obtain ⟨-, level, least, most⟩ := ok
    rcases effect_startAudit_cases m l d s with ends | ⟨⟨on, cool⟩, ⟨c, tallies, results, named, ends⟩ | ⟨results, x, ends⟩⟩ <;>
      rw [ends]
    · exact ⟨form, fun _ free => free, fun _ => audit, nofun⟩
    · refine ⟨?_, ?_, fun not => absurd rfl not, fun _ => ⟨?_, _, by rw [formOutputs_audit], ?_⟩⟩
      · rw [formOutputs_command]
        exact form
      · rw [formOutputs_command]
        exact fun _ free => free
      · rw [formOutputs_command]
        exact empty
      · refine ⟨?_, ?_, least, most, by dsimp only; omega, level, c, rfl, named⟩
        · rw [formOutputs_output_switchOn]
          exact on
        · rw [formOutputs_output_thermal]
          exact cool
    · have ended : AuditEnded s { s with audit := { run := none, results := results } } :=
        auditEnded_idle form audit (audit.idle empty) rfl rfl
      exact (ended.of_eq (formOutputs_command _) (formOutputs_audit _)).effectOk _
  · have quiet := effect_quiet off abort reset (fun m l d is => starts ⟨m, l, d, is⟩) s
    obtain ⟨⟨groups, command⟩, same, switchOn⟩ := quiet
    have not_began : (effect c s).2 ≠ .began := fun began => starts (effect_began began)
    refine ⟨by rw [command]; exact form.groups groups, by rw [command]; exact fun _ free => free, fun _ => ?_,
      fun began => absurd began not_began⟩
    exact audit.of_eq (by rw [command]) same switchOn (effect_thermal c s)

/-! ### Executing a command (R138) -/

/-- The execution of a command of a free number, where a START AUDIT finds nothing running. -/
theorem execute_between {seq code : Byte} {params : List Byte} {s : State} (between : Between s) (free : SeqFree s.command seq)
    (idle : ∀ m l d, parse code params = .ok (.startAudit m l d) → s.command.running = none) :
    Between (execute seq code params s) := by
  have replied {t : State} (form : UnitForm t.command) (audit : AuditOk t) (free : SeqFree t.command seq) {r : Record}
      (same : r.seq = seq) (ends : EndedRecord r) : Between { t with command := addReply r t.command } := by
    rw [addReply_eq]
    exact ⟨form.withReply (by rw [same]; exact free) ends, audit.of_eq rfl rfl (.inl rfl) rfl⟩
  rcases execute_cases seq code params s with ⟨e, -, ends⟩ | ⟨c, right, ends⟩
  · rw [ends]
    exact replied between.1 between.2 free rfl ⟨.inr rfl, Nat.zero_le _⟩
  · obtain ⟨-, ok, -⟩ := parse_accepts right
    obtain ⟨form, free', audit, began⟩ := effect_ok ok between fun m l d is => idle m l d (is ▸ right)
    have short := effect_short c s
    rcases ends with ⟨data, ended, ends⟩ | ⟨e, data, ended, ends⟩ | ⟨ended, ends⟩ <;> rw [ends]
    · rw [ended] at short audit
      exact replied form (audit nofun) (free' seq free) rfl ⟨.inl rfl, short⟩
    · rw [ended] at short audit
      exact replied form (audit nofun) (free' seq free) rfl ⟨.inr rfl, short⟩
    · obtain ⟨empty, run, runs, run_ok⟩ := began ended
      refine ⟨form.begin empty (free' seq free) rfl, ?_, fun x is => ?_⟩
      · dsimp only
        rw [runs]
        rfl
      · rw [show x = run from Option.some.inj (is.symm.trans runs)]
        exact run_ok

theorem execute_queue_le (seq code : Byte) (params : List Byte) (s : State) :
    (execute seq code params s).command.queue.length ≤ s.command.queue.length := by
  have effects (c : Cmd) : (effect c s).1.command.queue.length ≤ s.command.queue.length := by
    by_cases reset : c = .nodeReset
    · rw [reset]
      exact Nat.zero_le _
    · rw [effect_queue reset]
  rcases execute_cases seq code params s with ⟨e, -, ends⟩ | ⟨c, -, ⟨data, -, ends⟩ | ⟨e, data, -, ends⟩ | ⟨-, ends⟩⟩ <;> rw [ends]
  · exact le_rfl
  · exact effects c
  · exact effects c
  · exact effects c

/-! ### Draining (R140) -/

/-- The collections and the audit in agreement between two events (R136, R137). -/
def Agreed (s : State) : Prop := Between s ∧ (s.command.queue ≠ [] → s.command.running.isSome = true)

theorem agreed_iff {s : State} : Agreed s ↔ WindowOk s ∧ AuditOk s :=
  ⟨fun ⟨⟨form, audit⟩, behind⟩ => ⟨windowOk_iff.mpr ⟨form, behind⟩, audit⟩, fun ⟨window, audit⟩ =>
    have ⟨form, behind⟩ := windowOk_iff.mp window
    ⟨⟨form, audit⟩, behind⟩⟩

theorem Agreed.of_eq {s t : State} (h : Agreed s) (command : t.command = s.command) (audit : t.audit = s.audit)
    (switchOn : t.output.switchOn = s.output.switchOn) (thermal : t.output.thermal = s.output.thermal) : Agreed t := by
  obtain ⟨⟨form, agrees⟩, behind⟩ := h
  exact ⟨⟨by rw [command]; exact form, agrees.of_eq (by rw [command]) audit (.inl switchOn) thermal⟩, by rw [command]; exact behind⟩

theorem drainQueue_agreed (n : Nat) (s : State) (between : Between s) (few : s.command.queue.length ≤ n)
    (idle : s.command.running = none) : Agreed (drainQueue n s) := by
  induction n generalizing s with
  | zero => exact ⟨between, fun some => absurd (List.length_eq_zero_iff.mp (Nat.le_zero.mp few)) some⟩
  | succ n ih =>
    cases queue : s.command.queue with
    | nil =>
      rw [drainQueue_empty _ s queue]
      exact ⟨between, fun some => absurd queue some⟩
    | cons r rest =>
      obtain ⟨form, audit⟩ := between
      obtain ⟨form', free⟩ := form.dequeue idle queue
      have next := execute_between (s := { s with command := { s.command with queue := rest } }) (code := r.code)
        (params := r.params) ⟨form', audit.of_eq rfl rfl (.inl rfl) rfl⟩ free fun _ _ _ _ => idle
      rw [drainQueue_cons n s r rest queue]
      dsimp only
      split
      · next runs => exact ⟨next, fun _ => runs⟩
      · next empty =>
        refine ih _ next ((execute_queue_le _ _ _ _).trans ?_) (by simpa using empty)
        rw [queue, List.length_cons] at few
        exact Nat.le_of_succ_le_succ few

/-- After an event that added nothing to the queue it drains where the running command has ended. -/
theorem drainIfEnded_agreed {s t : State} (behind : s.command.queue ≠ [] → s.command.running.isSome = true) (between : Between t)
    (few : t.command.queue.length ≤ s.command.queue.length) : Agreed (drainIfEnded s t) := by
  unfold drainIfEnded
  split
  · next ended =>
    rw [Bool.and_eq_true, Option.isNone_iff_eq_none] at ended
    exact drainQueue_agreed _ t between le_rfl ended.2
  · next other =>
    refine ⟨between, fun waiting => ?_⟩
    have ran := behind fun empty => waiting (List.length_eq_zero_iff.mp (by rw [empty] at few; exact Nat.le_zero.mp few))
    rw [ran] at other
    simpa [Option.isSome_iff_ne_none] using other

/-! ### Taking a command (R135, R138, R139, R141) -/

/-- A command that executes at once behind a running audit, a READ of node status, leaves the running slot. -/
theorem execute_nodeStatus_running {seq code : Byte} {params : List Byte} (status : isNodeStatusRead code params = true)
    (s : State) : (execute seq code params s).command.running = s.command.running := by
  have code_is : code = 20 := by
    by_contra other
    rw [isNodeStatusRead_eq_false fun both => other both.1] at status
    cases status
  rcases execute_cases seq code params s with ⟨e, -, ends⟩ | ⟨c, right, ends⟩
  · rw [ends]
    rfl
  · obtain ⟨same, -, -⟩ := parse_accepts right
    rw [code_is] at same
    have reads : ∃ item, c = .read item := by
      cases c with
      | read item => exact ⟨item, rfl⟩
      | _ => exact absurd same (by simp [codeOf])
    obtain ⟨item, rfl⟩ := reads
    rcases ends with ⟨data, -, ends⟩ | ⟨e, data, -, ends⟩ | ⟨began, -⟩
    · rw [ends]
      rfl
    · rw [ends]
      rfl
    · cases began

theorem takeCommand_agreed (seq code : Byte) (params : List Byte) {s : State} (h : Agreed s) :
    Agreed (takeCommand seq code params s) := by
  obtain ⟨between, behind⟩ := id h
  rcases takeCommand_cases seq code params s with ⟨-, same⟩ | ⟨held, urgent, taken⟩ | ⟨held, normal, now, taken⟩
    | ⟨held, -, -, runs, ⟨room, taken⟩ | ⟨-, taken⟩⟩
  · rwa [same]
  · have free := isHeld_eq_false_iff.mp held
    rw [taken]
    refine drainIfEnded_agreed behind (execute_between between free fun m l d right => ?_) (execute_queue_le _ _ _ _)
    obtain ⟨rfl, -, -⟩ := parse_accepts right
    cases urgent
  · have free := isHeld_eq_false_iff.mp held
    have few := execute_queue_le seq code params s
    rw [taken]
    rcases now with status | idle
    · refine ⟨execute_between between free fun m l d right => ?_, fun waiting => ?_⟩
      · obtain ⟨rfl, -, -⟩ := parse_accepts right
        cases status
      · rw [execute_nodeStatus_running status]
        exact behind fun empty => waiting (List.length_eq_zero_iff.mp (by rw [empty] at few; exact Nat.le_zero.mp few))
    · refine ⟨execute_between between free fun _ _ _ _ => idle, fun waiting => ?_⟩
      have empty : s.command.queue = [] := by
        by_contra some
        have ran := behind some
        rw [idle] at ran
        cases ran
      exact absurd (List.length_eq_zero_iff.mp (by rw [empty] at few; exact Nat.le_zero.mp few)) waiting
  · have free := isHeld_eq_false_iff.mp held
    rw [taken]
    exact ⟨⟨between.1.enqueue free room rfl, between.2.of_eq rfl rfl (.inl rfl) rfl⟩, fun _ => runs⟩
  · have free := isHeld_eq_false_iff.mp held
    rw [taken, reply, addReply_eq]
    exact ⟨⟨between.1.withReply free ⟨.inr rfl, Nat.zero_le _⟩, between.2.of_eq rfl rfl (.inl rfl) rfl⟩, behind⟩

/-! ### Timed events (R100, R101, R105) -/

theorem agreed_keptByRecompute : KeptByRecompute Agreed where
  inputs := fun _ _ _ _ h => h.of_eq rfl rfl rfl rfl
  recompute := fun p s h => h.of_eq (recompute_command p s) (recompute_audit p s) (by rw [recompute_output]) (by rw [recompute_output])

theorem Agreed.stepRamps {s : State} (h : Agreed s) : Agreed (stepRamps s) :=
  h.of_eq (stepRamps_command s) (stepRamps_audit s) (by rw [stepRamps_output]) (by rw [stepRamps_output])

theorem Agreed.beginPeriod {s : State} (h : Agreed s) : Agreed (beginPeriod s) :=
  h.of_eq (beginPeriod_command s) (beginPeriod_audit s) (beginPeriod_output_switchOn s) (beginPeriod_output_thermal s)

/-- The dwell of a counted period closed: the next channel is under test, or the audit has ended. -/
theorem closeDwell_between {s : State} (h : Agreed s) :
    Between (closeDwell (periodCounted s)) ∧ (closeDwell (periodCounted s)).command.queue = s.command.queue := by
  obtain ⟨⟨form, audit⟩, -⟩ := h
  cases runs : s.audit.run with
  | none =>
    have goes_on : DwellGoesOn s := fun run c is => by rw [runs] at is; cases is
    have counted : periodCounted s = s := by
      rw [periodCounted, runs, Option.map_none, ← runs]
    rw [closeDwell_periodCounted goes_on, counted]
    exact ⟨⟨form, audit⟩, rfl⟩
  | some run =>
    obtain ⟨r, c, record, under⟩ := audit.running runs
    obtain ⟨on, cool, least, most, early, level, -⟩ := id (audit.2 run runs)
    obtain ⟨counted, is_counted⟩ : ∃ x : AuditRun, x = { run with periods := run.periods + 1 } := ⟨_, rfl⟩
    have now : (periodCounted s).audit.run = some counted := by
      rw [is_counted]
      simp only [periodCounted, runs, Option.map_some]
    have under' : counted.under = some c := by rw [is_counted]; exact under
    by_cases late : counted.dwell ≤ counted.periods
    · rcases exists_nextTested_or_skips (periodCounted s) counted.mask (fun e => c < e) with ⟨d, next⟩ | skips
      · rw [closeDwell_next now under' late next]
        refine ⟨⟨by rw [formOutputs_command]; exact form, ?_⟩, by rw [formOutputs_command]; rfl⟩
        refine AuditOk.of_eq (s := { s with audit := {
            run := some { counted with under := some d, periods := 0, tallies := _ }, results := _ } }) ?_
          (by rw [formOutputs_command]; rfl) (formOutputs_audit _) (.inl (by rw [formOutputs_output_switchOn]; rfl))
          (by rw [formOutputs_output_thermal]; rfl)
        refine ⟨by rw [record]; rfl, fun x is => ?_⟩
        cases is
        rw [is_counted] at next ⊢
        exact ⟨on, cool, least, most, by dsimp only; omega, level, d, rfl, next.1⟩
      · rw [closeDwell_last now under' late skips]
        rw [endAudit_running .ok _ _ r (by rfl) (by exact record)]
        generalize skippedResults _ _ = results
        generalize tallied _ _ _ = tallies
        have ended : AuditEnded s { periodCounted s with
            audit := { run := none, results := results }
            command := { withReply s.command (auditRecord r .ok tallies) with running := none } } :=
          auditEnded_of_running form record rfl rfl
        have formed := ended.of_eq (formOutputs_command _) (formOutputs_audit _)
        exact ⟨formed.between, formed.queue⟩
    · have goes_on : DwellGoesOn s := fun x d is _ => by
        rw [runs] at is
        cases is
        rw [is_counted] at late
        exact Nat.not_le.mp late
      rw [closeDwell_periodCounted goes_on]
      refine ⟨⟨form, by rw [now, periodCounted, record]; rfl, fun x is => ?_⟩, rfl⟩
      rw [now] at is
      cases is
      obtain ⟨-, -, -, -, -, -, named⟩ := audit.2 run runs
      rw [is_counted] at late ⊢
      exact ⟨on, cool, least, most, Nat.not_le.mp late, level, named⟩

theorem auditBoundary_agreed {s : State} (h : Agreed s) : Agreed (auditBoundary s) := by
  obtain ⟨between, queue⟩ := closeDwell_between h
  rw [auditBoundary, countPeriod_eq, dwellEnd]
  exact drainIfEnded_agreed h.2 between (by rw [queue]; rfl)

theorem takeBoundary_agreed (peaks : Tab 24 Nat) (order : BoundaryOrder) {s : State} (h : Agreed s) :
    Agreed (takeBoundary peaks order s) := by
  have judged : Agreed (stepMonitors (formReports peaks s)) := h.of_eq (by simp) (by simp) (by simp) (by simp)
  unfold takeBoundary
  dsimp only
  split
  · exact (auditBoundary_agreed judged).stepRamps.beginPeriod
  · exact (auditBoundary_agreed judged.stepRamps).beginPeriod
  · have stepped := judged.stepRamps
    obtain ⟨⟨form, audit⟩, queue⟩ := closeDwell_between stepped
    rw [countPeriod_eq]
    refine drainIfEnded_agreed judged.2 ⟨by rw [beginPeriod_command]; exact form, ?_⟩ ?_
    · exact audit.of_eq (by rw [beginPeriod_command]) (beginPeriod_audit _) (.inl (beginPeriod_output_switchOn _))
        (beginPeriod_output_thermal _)
    · rw [beginPeriod_command, queue, stepRamps_command]

/-- Between two events no dwell is due, and a channel is under test while an audit runs (R100). -/
theorem Agreed.dwellEnd {s : State} (h : Agreed s) : Agreed (dwellEnd s) := by
  have goes_on : closeDwell s = s := closeDwell_goesOn fun run runs => by
    obtain ⟨-, -, -, -, early, -⟩ := h.1.2.2 run runs
    exact early
  rw [Machine.dwellEnd, goes_on]
  exact drainIfEnded_agreed h.2 h.1 le_rfl

theorem Agreed.completeAudit {s : State} (h : Agreed s) : Agreed (completeAudit s) := by
  have left : auditExhausted s.audit = false := by
    unfold auditExhausted
    split
    · next run runs =>
      obtain ⟨-, -, -, -, -, -, c, under, -⟩ := h.1.2.2 run runs
      rw [under]
      rfl
    · rfl
  rw [Machine.completeAudit, left]
  exact h

theorem Agreed.changeThermal {s : State} (h : Agreed s) (new : Thermal) : Agreed (changeThermal new s) := by
  obtain ⟨form, audit⟩ := h.1
  unfold Machine.changeThermal
  dsimp only
  split
  · have ended := abortAudit_ended form audit { s.output with thermal := new }
    exact drainIfEnded_agreed h.2 ended.between (by rw [ended.queue])
  · next cool =>
    have changed : AuditOk { s with output := { s.output with thermal := new } } :=
      ⟨audit.1, fun run runs => have ⟨on, _, rest⟩ := audit.2 run runs; ⟨on, cool, rest⟩⟩
    exact Agreed.of_eq (s := { s with output := { s.output with thermal := new } }) ⟨⟨form, changed⟩, h.2⟩
      (formOutputs_command _) (formOutputs_audit _) (formOutputs_output_switchOn _) (formOutputs_output_thermal _)

theorem agreed_reset {s : State} (command : s.command = CommandUnit.reset) (audit : s.audit = AuditUnit.reset) : Agreed s := by
  refine ⟨⟨?_, auditOk_ended (by rw [audit]; rfl) (by rw [command]; rfl)⟩, ?_⟩
  · rw [command]
    exact ⟨Nat.zero_le _, Nat.zero_le _, List.nodup_nil, nofun, nofun, nofun⟩
  · rw [command]
    exact fun some => absurd rfl some

theorem agreed_kept : Kept Agreed where
  ring := fun _ _ _ h => h.of_eq rfl rfl rfl rfl
  switch := fun _ _ _ h => h.of_eq rfl rfl rfl rfl
  counts := fun _ _ _ h => h.of_eq rfl rfl rfl rfl
  arrival := fun i slots s _ h => agreed_keptByRecompute.arrival i slots s h
  command := fun seq code params _ h => takeCommand_agreed seq code params h
  commit := fun s _ _ h => h.of_eq (commit_command s) (commit_audit s) (commit_output_switchOn s) (commit_output_thermal s)
  tick := fun order s h => agreed_keptByRecompute.tick order s (h.of_eq rfl rfl rfl rfl)
  expiry := agreed_keptByRecompute.expiry
  boundary := fun peaks order _ h => takeBoundary_agreed peaks order h
  delay := fun _ _ h => h.of_eq rfl rfl rfl rfl
  latch := fun _ _ h => h.of_eq (formOutputs_command _) (formOutputs_audit _) (formOutputs_output_switchOn _)
    (formOutputs_output_thermal _)
  dwell := fun _ h => h.dwellEnd
  complete := fun _ h => h.completeAudit
  thermal := fun new _ h => h.changeThermal new
  reset := fun _ _ => agreed_reset rfl rfl
  sensor := fun _ _ _ => agreed_reset rfl rfl

end Sys2Proof.Machine

open Sys2Proof Sys2Proof.Machine

/-- Settles O7: records move between the collections and none of a held number is added; an audit and its record begin and end
together. -/
theorem windowAndAuditKept : Obligations.WindowAndAuditKept := fun s t window audit run =>
  agreed_iff.mp (agreed_kept.step (fun _ _ h => h.of_eq rfl rfl rfl rfl) s t (agreed_iff.mpr ⟨window, audit⟩) run)
end
